-- ==== Sys2Proof/Word.lean ====
section
/-! DEFINITION. The word types of the block (`00_scope.md` rules R6 and R8). -/

namespace Sys2Proof

/-- A command word, `CMD_W` = 40 bits (R6, R70). -/
abbrev CmdWord := BitVec 40

/-- A numeric operand, a response datum, a number of time units: `ARG_W` = `PERIOD_W` = 32 bits (R6). -/
abbrev Arg := BitVec 32

/-- A micro-step mode as the register holds it, `MODE_W` = 4 bits (R6, R21). -/
abbrev Mode := BitVec 4

/-- A pattern bit3..bit0 of `mode_encoder_lut` (R8, R100). -/
abbrev Pattern := BitVec 4

/-- A pulse total, `PULSE_W` = 64 bits (R6). -/
abbrev PulseCount := BitVec 64

/-- The level of a one-bit line, flag or operand: `false` is 0 and `true` is 1 (R10, R72). -/
abbrev Level := Bool

/-- `zext_32` of a one-bit level (R83). -/
abbrev Level.zext32 (b : Level) : Arg := (BitVec.ofBool b).setWidth 32

end Sys2Proof
end

