-- ==== Sys2Proof/Syntax.lean ====
section
/-! DEFINITION. The ten commands of the block (`30_encoding.md` rules R75, R76, R84). -/

namespace Sys2Proof

/-- One command with its operands; one constructor per row of the opcode table (R76). -/
inductive Instr where
  /-- `init <mode>` (R105). -/
  | init (mode : Arg)
  /-- `setStepMode <mode>` (R106). -/
  | setStepMode (mode : Arg)
  /-- `getStepMode` (R160). -/
  | getStepMode
  /-- `runSteps <count>, <dir>` (R135). -/
  | runSteps (count : Arg) (dir : Level)
  /-- `runRevolutions <revolutions>, <dir>` (R136). -/
  | runRevolutions (revolutions : Arg) (dir : Level)
  /-- `stop` (R165). -/
  | stop
  /-- `setDirection <dir>` (R161). -/
  | setDirection (dir : Level)
  /-- `getDirection` (R162). -/
  | getDirection
  /-- `setStepPeriod <period>` (R163). -/
  | setStepPeriod (period : Arg)
  /-- `getStepPeriod` (R164). -/
  | getStepPeriod
  deriving DecidableEq, Repr

/-- The ten defined opcodes, without operands (R76). -/
inductive Opcode where
  | init | setStepMode | getStepMode | runSteps | runRevolutions
  | stop | setDirection | getDirection | setStepPeriod | getStepPeriod
  deriving DecidableEq, Repr

/-- The four formats of R75: which of `arg` and `d` is an operand. -/
inductive Format where
  /-- No operand. -/
  | f0
  /-- `arg` is an operand. -/
  | fa
  /-- `d` is an operand. -/
  | fd
  /-- `arg` and `d` are operands. -/
  | fad
  deriving DecidableEq, Repr

/-- The format column of R76. -/
def Opcode.format : Opcode → Format
  | .init => .fa
  | .setStepMode => .fa
  | .getStepMode => .f0
  | .runSteps => .fad
  | .runRevolutions => .fad
  | .stop => .f0
  | .setDirection => .fd
  | .getDirection => .f0
  | .setStepPeriod => .fa
  | .getStepPeriod => .f0

/-- Does the format take the numeric operand `arg` (R75)? -/
def Format.hasArg : Format → Bool
  | .f0 => false
  | .fa => true
  | .fd => false
  | .fad => true

/-- Does the format take the direction operand `d` (R75)? -/
def Format.hasDir : Format → Bool
  | .f0 => false
  | .fa => false
  | .fd => true
  | .fad => true

/-- The opcode of a command. -/
def Instr.opcode : Instr → Opcode
  | .init _ => .init
  | .setStepMode _ => .setStepMode
  | .getStepMode => .getStepMode
  | .runSteps _ _ => .runSteps
  | .runRevolutions _ _ => .runRevolutions
  | .stop => .stop
  | .setDirection _ => .setDirection
  | .getDirection => .getDirection
  | .setStepPeriod _ => .setStepPeriod
  | .getStepPeriod => .getStepPeriod

/-- The numeric operand, 0 where the command has none (R84). -/
def Instr.arg : Instr → Arg
  | .init m => m
  | .setStepMode m => m
  | .getStepMode => 0
  | .runSteps n _ => n
  | .runRevolutions r _ => r
  | .stop => 0
  | .setDirection _ => 0
  | .getDirection => 0
  | .setStepPeriod p => p
  | .getStepPeriod => 0

/-- The direction operand, 0 where the command has none (R84). -/
def Instr.dir : Instr → Level
  | .init _ => false
  | .setStepMode _ => false
  | .getStepMode => false
  | .runSteps _ d => d
  | .runRevolutions _ d => d
  | .stop => false
  | .setDirection d => d
  | .getDirection => false
  | .setStepPeriod _ => false
  | .getStepPeriod => false

/-- One statement of the assembly language before its operands are checked: a mnemonic and the
numbers written after it (R84). -/
structure Stmt where
  opcode : Opcode
  operands : List Nat
  deriving DecidableEq, Repr

/-- The statement that writes a command: `<arg>` before `<dir>`, each only where the syntax has it. -/
def Instr.stmt : Instr → Stmt
  | .init m => ⟨.init, [m.toNat]⟩
  | .setStepMode m => ⟨.setStepMode, [m.toNat]⟩
  | .getStepMode => ⟨.getStepMode, []⟩
  | .runSteps n d => ⟨.runSteps, [n.toNat, d.toNat]⟩
  | .runRevolutions r d => ⟨.runRevolutions, [r.toNat, d.toNat]⟩
  | .stop => ⟨.stop, []⟩
  | .setDirection d => ⟨.setDirection, [d.toNat]⟩
  | .getDirection => ⟨.getDirection, []⟩
  | .setStepPeriod p => ⟨.setStepPeriod, [p.toNat]⟩
  | .getStepPeriod => ⟨.getStepPeriod, []⟩

end Sys2Proof
end

