-- ==== Sys2Proof/WellFormed.lean ====
section
/-! DEFINITION. Which statements of the assembly language are well formed (`30_encoding.md` rule R84).
A decoded `Instr` always is: its operands have the widths of their fields. -/

namespace Sys2Proof

/-- "A numeric operand ... must fit in 32 bits" (R84). -/
def fitsArg (n : Nat) : Bool := decide (n < 2 ^ 32)

/-- "A direction operand is `0` or `1`" (R84). -/
def fitsDir (n : Nat) : Bool := decide (n < 2)

/-- How many operands the syntax of R84 writes for a format. -/
def Format.operandCount : Format → Nat
  | .f0 => 0
  | .fa => 1
  | .fd => 1
  | .fad => 2

/-- Every operand fits its field; the number of operands is checked apart. -/
def Format.operandsFit : Format → List Nat → Bool
  | .f0, _ => true
  | .fa, ops => ops.all fitsArg
  | .fd, ops => ops.all fitsDir
  | .fad, ops => (ops.take 1).all fitsArg && (ops.drop 1).all fitsDir

/-- A statement is well formed when it has the operands its mnemonic takes and each fits its field;
"an operand that does not fit its field is an assembly error" (R84). -/
def Stmt.wellFormed (s : Stmt) : Bool :=
  decide (s.operands.length = s.opcode.format.operandCount) && s.opcode.format.operandsFit s.operands

/-- A command is well formed when the statement that writes it is. -/
def Instr.wellFormed (i : Instr) : Bool := i.stmt.wellFormed

end Sys2Proof
end

