-- ==== Sys2Proof/Decode.lean ====
section
/-! DEFINITION. The command word: its fields, the opcode map, `Decode` and the encoder
(`30_encoding.md` rules R70 to R80, R84). -/

namespace Sys2Proof

/-- The fields of a command word (R70). -/
structure Fields where
  op : BitVec 4
  d : Level
  rsv : BitVec 3
  arg : Arg
  deriving DecidableEq, Repr

/-- `op = w[3:0]`, `d = w[4]`, `rsv = w[7:5]`, `arg = w[39:8]` (R70, R77). -/
def fieldsOf (w : CmdWord) : Fields :=
  { op := w.extractLsb' 0 4, d := w.getLsbD 4, rsv := w.extractLsb' 5 3, arg := w.extractLsb' 8 32 }

/-- The opcode numbers (R76). -/
def Opcode.bits : Opcode → BitVec 4
  | .init => 0x1
  | .setStepMode => 0x2
  | .getStepMode => 0x3
  | .runSteps => 0x4
  | .runRevolutions => 0x5
  | .stop => 0x6
  | .setDirection => 0x7
  | .getDirection => 0x8
  | .setStepPeriod => 0x9
  | .getStepPeriod => 0xA

/-- The defined opcodes in the order of R76. -/
def Opcode.all : List Opcode :=
  [.init, .setStepMode, .getStepMode, .runSteps, .runRevolutions,
   .stop, .setDirection, .getDirection, .setStepPeriod, .getStepPeriod]

/-- The opcode with the given number; `0x0` and `0xB` to `0xF` are reserved (R76, R78). -/
def Opcode.ofBits (b : BitVec 4) : Option Opcode := Opcode.all.find? (fun o => o.bits == b)

/-- Why `Decode` raises `IllegalCommand`: R77's four checks, by name. -/
inductive Reject where
  /-- `op = 0x0 or op >= 0xB` (R78). -/
  | reservedOpcode
  /-- `rsv != 0b000` (R74). -/
  | reservedBits
  /-- `d != 0` in format F0 or FA (R79). -/
  | directionNotZero
  /-- `arg != 0` in format F0 or FD (R79). -/
  | argumentNotZero
  deriving DecidableEq, Repr

/-- The command of an opcode with the two operand fields; a format ignores the field it does not
have, which `decodeFields` has found zero. -/
def Opcode.build (o : Opcode) (arg : Arg) (d : Level) : Instr :=
  match o with
  | .init => .init arg
  | .setStepMode => .setStepMode arg
  | .getStepMode => .getStepMode
  | .runSteps => .runSteps arg d
  | .runRevolutions => .runRevolutions arg d
  | .stop => .stop
  | .setDirection => .setDirection d
  | .getDirection => .getDirection
  | .setStepPeriod => .setStepPeriod arg
  | .getStepPeriod => .getStepPeriod

/-- `Decode` on the fields, its checks in R77's order. -/
def decodeFields (f : Fields) : Except Reject Instr :=
  match Opcode.ofBits f.op with
  | none => .error .reservedOpcode
  | some o =>
    if f.rsv ≠ 0 then .error .reservedBits
    else if o.format.hasDir = false ∧ f.d = true then .error .directionNotZero
    else if o.format.hasArg = false ∧ f.arg ≠ 0 then .error .argumentNotZero
    else .ok (o.build f.arg f.d)

/-- `Decode(w)` (R77): total on every 40-bit word. -/
def decode (w : CmdWord) : Except Reject Instr := decodeFields (fieldsOf w)

/-- The assembled word `zext_40(arg) << 8 | d << 4 | op` (R70, R84). -/
def encode (i : Instr) : CmdWord :=
  (i.arg.setWidth 40 <<< 8) ||| ((BitVec.ofBool i.dir).setWidth 40 <<< 4) ||| i.opcode.bits.setWidth 40

/-- The mask column of R75: the bits of a word that must match. -/
def Format.mask : Format → CmdWord
  | .f0 => 0xFFFFFFFFFF#40
  | .fa => 0x00000000FF#40
  | .fd => 0xFFFFFFFFEF#40
  | .fad => 0x00000000EF#40

/-- The match column of R76. -/
def Opcode.matchWord : Opcode → CmdWord
  | .init => 0x0000000001#40
  | .setStepMode => 0x0000000002#40
  | .getStepMode => 0x0000000003#40
  | .runSteps => 0x0000000004#40
  | .runRevolutions => 0x0000000005#40
  | .stop => 0x0000000006#40
  | .setDirection => 0x0000000007#40
  | .getDirection => 0x0000000008#40
  | .setStepPeriod => 0x0000000009#40
  | .getStepPeriod => 0x000000000A#40

/-- An instruction's `nbits` bits `w` as the 40-bit command word: the bits above `nbits` are 0. -/
def tableWord (nbits w : Nat) : CmdWord := BitVec.ofNat 40 (w % 2 ^ nbits)

/-- The command the decoder reads from an opcode-table word, `none` where it refuses. Every command
is one 40-bit word (R80), so bits above bit 39 belong to no command. -/
def decodeTableWord (nbits w : Nat) : Option Instr :=
  if w % 2 ^ nbits < 2 ^ 40 then (decode (tableWord nbits w)).toOption else none

end Sys2Proof
end

