-- ==== Sys2Proof/Config.lean ====
section
/-! DEFINITION. What the spec leaves to the implementation or the environment: the open parameters of
`00_scope.md` rule R7 and the free level of the direction pad (`10_state.md` rule R27). -/

namespace Sys2Proof

/-- `DIR_READBACK` (R7): what `getDirection` observes. -/
inductive DirReadback where
  /-- `dir_i = L_DIR` in every cycle (R27). -/
  | loopback
  /-- `dir_i` is a draw from the environment (R27). -/
  | pad
  deriving DecidableEq, Repr, Inhabited

/-- The open parameters of R7; "a model takes each one as an argument". -/
structure Params where
  /-- `U - 1`: written so because `U` is "an integer, at least 1" (R7). -/
  extraCyclesPerUnit : Nat
  /-- `DEFAULT_STEP_PERIOD` (R7, R22). -/
  defaultStepPeriod : Arg
  /-- `DIR_READBACK` (R7, R27). -/
  dirReadback : DirReadback
  deriving DecidableEq, Repr, Inhabited

/-- `U`, the number of `clk` cycles in one time unit (R7). -/
def Params.cyclesPerUnit (p : Params) : Nat := p.extraCyclesPerUnit + 1

/-- The parameters of the machine at hand. No body: nothing can be proved of their values
(DESIGN CHOICE, log 1). -/
opaque Config.params : Params

/-- The level of the direction pad at the n-th draw under `DIR_READBACK = PAD`: a free value
(R27, I4; DESIGN CHOICE, log 2). -/
opaque Config.padLevel : Nat → Level

end Sys2Proof
end

