-- ==== Sys2Proof/Machine/State.lean ====
section
/-! DEFINITION. The state of one `stepper_sequencer` (`10_state.md` rule R20), the events of a trace
(`00_scope.md` rule R11), the reasons a step can end, and the state after reset (R35). -/

namespace Sys2Proof.Machine

/-- The five control lines (R26). -/
inductive Line where
  | stby | stck | dir | mode1 | mode2
  deriving DecidableEq, Repr

/-- The output latches of the five control lines (R26). -/
structure Lines where
  stby : Level
  stck : Level
  dir : Level
  mode1 : Level
  mode2 : Level
  deriving DecidableEq, Repr

/-- An event of a trace (R11). -/
inductive Event where
  /-- `Wr(L, b)`: a write to a line latch. -/
  | wr (line : Line) (level : Level)
  /-- `Wait(n)`: a wait of n time units. -/
  | wait (units : Arg)
  /-- `Run(b)`: a write to the running flag by `SetRunning`. -/
  | run (b : Level)
  /-- `Resp(status, data)`: the response. -/
  | resp (status : BitVec 2) (data : Arg)
  deriving DecidableEq, Repr

/-- A stretch of a trace. A run can emit up to `4 * (2^51 - 2^19)` events, so a pulse train is held
as its count and half-period (DESIGN CHOICE, log 10). -/
inductive TraceItem where
  /-- One event. -/
  | event (e : Event)
  /-- `count` copies of `[Wr(STCK,1), Wait(p), Wr(STCK,0), Wait(p)]` (R132). -/
  | pulses (count : Nat) (halfPeriod : Arg)
  deriving DecidableEq, Repr

/-- The one-cycle line writes of the reference realisation (R240), named by their place. -/
inductive LineStep where
  /-- CFG step 3, `Line(STBY) <- 0` (R103). -/
  | cfgStby
  /-- CFG step 5, `Line(STCK) <- pat[3]`. -/
  | cfgStck
  /-- CFG step 5, `Line(DIR) <- pat[2]`. -/
  | cfgDir
  /-- CFG step 5, `Line(MODE1) <- pat[1]`. -/
  | cfgMode1
  /-- CFG step 5, `Line(MODE2) <- pat[0]`. -/
  | cfgMode2
  /-- Preamble step 2, `Line(STBY) <- 1` (R131). -/
  | runStby
  /-- Preamble step 4, `Line(DIR) <- d`. -/
  | runDir
  /-- Pulse loop, `Line(STCK) <- 1` (R132). -/
  | pulseHigh
  /-- Pulse loop, `Line(STCK) <- 0` and the decrement of `pulse_cnt`. -/
  | pulseLow
  /-- `Line(DIR) <- d` of `setDirection` (R161). -/
  | setDir
  deriving DecidableEq, Repr

/-- The waits of the reference realisation (R240), named by their place. -/
inductive WaitStep where
  /-- CFG step 4, `Wait(T_SETTLE)` (R103). -/
  | settle
  /-- CFG step 6, `Wait(T_LATCH)`. -/
  | latch
  /-- Preamble step 3, `Wait(T_WAKE)` (R131). -/
  | wake
  /-- The high half of a pulse, `Wait(step_period)` (R132). -/
  | high
  /-- The low half of a pulse, `Wait(step_period)`. -/
  | low
  /-- `Wait(T_DIR)` of `setDirection` (R161). -/
  | dir
  deriving DecidableEq, Repr

/-- The sequencer state `fsm`: `IDLE` or a micro-operation (R30, R240). -/
inductive Fsm where
  /-- Waiting for a command. -/
  | idle
  /-- About to write a line. -/
  | line (k : LineStep)
  /-- Within a wait. -/
  | wait (k : WaitStep)
  /-- About to run a `SetRunning(0)` that follows a `Line` or a `Wait` (R240). -/
  | clearRunning
  /-- The `Respond` cycle. -/
  | respond
  deriving DecidableEq, Repr

/-- The whole state: R20's registers, latches and hidden state, the input ports, and three fields of
the model's own. -/
structure State where
  /-- `step_mode` (R21). -/
  stepMode : Mode
  /-- `step_period` (R22). -/
  stepPeriod : Arg
  /-- `running` (R24). -/
  running : Level
  /-- `L_STBY`, `L_STCK`, `L_DIR`, `L_MODE1`, `L_MODE2` (R26). -/
  lines : Lines
  /-- `rsp_valid` (R31). -/
  rspValid : Level
  /-- `rsp_status` (R31). -/
  rspStatus : BitVec 2
  /-- `rsp_data` (R31). -/
  rspData : Arg
  /-- `fsm` (R30). -/
  fsm : Fsm
  /-- `presc`, 0..U-1 (R30). -/
  presc : Nat
  /-- `unit_cnt` (R30). -/
  unitCnt : Arg
  /-- `pulse_cnt` (R30). -/
  pulseCnt : PulseCount
  /-- `cmd_q` (R30). -/
  cmdQ : CmdWord
  /-- The input port `rst` (R29); the environment drives it. -/
  rst : Level
  /-- The words the requesters present, in the order the platform serialises them: `cmd_valid` is 1
  when the list is not empty and `cmd_word` is its head (R71, R207; log 14). -/
  commands : List CmdWord
  /-- The open parameters (R7); no step changes them (log 1). -/
  params : Params
  /-- The model's own: how many pad levels have been drawn (R12's `DirDraws`; log 2). -/
  padDraws : Nat
  /-- The model's own: everything emitted so far, oldest first (R11; log 10). -/
  trace : List TraceItem
  deriving DecidableEq, Repr

/-- Why a step could stop with a fault: there is no such reason, "No behaviour of the block is left
undefined" (R214), so the type has no constructor. -/
inductive Fault where
  deriving DecidableEq, Repr

/-- Why a step gives no next state. -/
inductive Refusal where
  /-- Raised by an arm of `exec` for an instruction that has no meaning yet; no arm does. Safe. -/
  | notModelled (mnemonic : String)
  /-- Raised by `step` alone, in a state whose `rsp_status` is 3: "A model that observes it must
  `refuse` to continue" (I9). Safe; no run reaches such a state (R201; log 11). -/
  | reservedStatus
  deriving DecidableEq, Repr

/-- All five latches at 0 (R35). -/
def Lines.reset : Lines := { stby := false, stck := false, dir := false, mode1 := false, mode2 := false }

/-- The state after reset of a block with parameters `p` (R35), with `rst` released and no command
presented (log 4). -/
def State.resetWith (p : Params) : State :=
  { stepMode := 0
    stepPeriod := p.defaultStepPeriod
    running := false
    lines := Lines.reset
    rspValid := false
    rspStatus := 0
    rspData := 0
    fsm := .idle
    presc := 0
    unitCnt := 0
    pulseCnt := 0
    cmdQ := 0
    rst := false
    commands := []
    params := p
    padDraws := 0
    trace := [] }

/-- The machine right after reset: the first cycle with `rst = 0` (R231). -/
def State.reset : State := State.resetWith Config.params

end Sys2Proof.Machine
end

