-- ==== Sys2Proof/Machine/Constants.lean ====
section
/-! DEFINITION. The constants the document fixes, each named once (`00_scope.md` rule R5, I10), and the
response status codes (`60_exceptions.md` rule R201). -/

namespace Sys2Proof.Machine

/-- `MAX_MODE` (R5). -/
def maxMode : Nat := 8

/-- `STEPS_PER_REV` (R5). -/
def stepsPerRev : Nat := 2048

/-- `T_SETTLE`, in time units (R5). -/
def tSettle : Arg := 100

/-- `T_LATCH`, in time units (R5). -/
def tLatch : Arg := 100

/-- `T_WAKE`, in time units (R5). -/
def tWake : Arg := 100

/-- `T_DIR`, in time units (R5). -/
def tDir : Arg := 10

/-- Status `OK` (R201). -/
def statusOk : BitVec 2 := 0

/-- Status `INVALID_MODE` (R201). -/
def statusInvalidMode : BitVec 2 := 1

/-- Status `ILLEGAL_CMD` (R201). -/
def statusIllegalCmd : BitVec 2 := 2

/-- The reserved status code, "never produced" (R201). -/
def statusReserved : BitVec 2 := 3

end Sys2Proof.Machine
end

