-- ==== Sys2Proof/Machine/Trace.lean ====
section
/-! DEFINITION. What a trace says: its items written out as events (`00_scope.md` rule R11). -/

namespace Sys2Proof.Machine

/-- One pulse with half-period `p` (R132). -/
def pulseEvents (p : Arg) : List Event :=
  [.wr .stck true, .wait p, .wr .stck false, .wait p]

/-- The events of `n` pulses with half-period `p`: "`N` copies of ..." (R132). -/
def trainEvents : Nat → Arg → List Event
  | 0, _ => []
  | n + 1, p => pulseEvents p ++ trainEvents n p

/-- The events of one item. -/
def TraceItem.events : TraceItem → List Event
  | .event e => [e]
  | .pulses n p => trainEvents n p

/-- The events of a trace, oldest first. -/
def traceEvents : List TraceItem → List Event
  | [] => []
  | x :: rest => x.events ++ traceEvents rest

/-- Everything the block has emitted, oldest first. -/
def State.events (s : State) : List Event := traceEvents s.trace

/-- The same state but for how the trace is written down: same events, and every other field equal. -/
def State.Agrees (s t : State) : Prop :=
  s.events = t.events ∧ { s with trace := [] } = { t with trace := [] }

end Sys2Proof.Machine
end

