-- ==== Sys2Proof/Machine/Ops.lean ====
section
/-! DEFINITION. The pseudocode primitives of `00_scope.md` rule R10 over the state, the response
(`30_encoding.md` rule R82), the shared error operation (`60_exceptions.md` rule R200), acceptance
(R71) and reset (`70_reset_and_hazards.md` rule R230). -/

namespace Sys2Proof.Machine

/-- Add an event to the trace (R11). -/
def State.emit (e : Event) (s : State) : State := { s with trace := s.trace ++ [.event e] }

/-- Write one latch. -/
def Lines.set (l : Line) (b : Level) (x : Lines) : Lines :=
  match l with
  | .stby => { x with stby := b }
  | .stck => { x with stck := b }
  | .dir => { x with dir := b }
  | .mode1 => { x with mode1 := b }
  | .mode2 => { x with mode2 := b }

/-- Read one latch. -/
def Lines.get (l : Line) (x : Lines) : Level :=
  match l with
  | .stby => x.stby
  | .stck => x.stck
  | .dir => x.dir
  | .mode1 => x.mode1
  | .mode2 => x.mode2

/-- `Line(L) <- b`: "writes the line's output latch and emits the event `Wr(L, b)`" (R10). -/
def State.setLine (l : Line) (b : Level) (s : State) : State :=
  State.emit (.wr l b) { s with lines := s.lines.set l b }

/-- `Wait(n)`, whole: the counters have run out and the event is emitted (R10; log 8, log 13). -/
def State.wait (n : Arg) (s : State) : State :=
  State.emit (.wait n) { s with presc := 0, unitCnt := 0 }

/-- The edge into the Respond cycle: the response registers are written and `rsp_valid` is 1 in that
cycle (R31, R82, R240; log 6). -/
def State.enterRespond (status : BitVec 2) (data : Arg) (s : State) : State :=
  { s with fsm := .respond, rspValid := true, rspStatus := status, rspData := data }

/-- The edge that ends the Respond cycle: the event `Resp` is emitted, `fsm` returns to `IDLE` and the
strobe has lasted its one cycle (R31, R82). -/
def State.finishRespond (s : State) : State :=
  State.emit (.resp s.rspStatus s.rspData) { s with fsm := .idle, rspValid := false }

/-- `Respond(status, data)` (R82): one Respond cycle, from its first edge to its last. -/
def State.respond (status : BitVec 2) (data : Arg) (s : State) : State :=
  (s.enterRespond status data).finishRespond

/-- `raise`: "the only thing that happens is `Respond(status, 0)`" (R200). This is all an error does:
there is no trap entry and no trap return (R204, R205). -/
def State.raise (status : BitVec 2) (s : State) : State := s.respond status 0

/-- Acceptance of the word on the port: it is copied into `cmd_q`, and the requester behind it may
present the next (R71). -/
def State.accept (w : CmdWord) (s : State) : State :=
  { s with cmdQ := w, commands := s.commands.tail }

/-- A clock edge with `rst = 1`: every element of R20 takes its reset value, no event is emitted, and
the emitted trace stands (R230). The input ports, the parameters and the number of pad draws are the
environment's and stay (log 4). -/
def State.resetEdge (s : State) : State :=
  { State.resetWith s.params with
    rst := s.rst
    commands := s.commands
    padDraws := s.padDraws
    trace := s.trace }

end Sys2Proof.Machine
end

