-- ==== Sys2Proof/Machine/Flags.lean ====
section
/-! DEFINITION. The block's one status flag, `running` (`10_state.md` rule R24). There are no condition
codes. -/

namespace Sys2Proof.Machine

/-- `SetRunning(b)`: `running <- b`, and the event `Run(b)` (R10). -/
def State.setRunning (b : Level) (s : State) : State :=
  State.emit (.run b) { s with running := b }

end Sys2Proof.Machine
end

