-- ==== Sys2Proof/Machine/Operands.lean ====
section
/-! DEFINITION. How the operands `arg` and `d` become values (`30_encoding.md` rules R72, R73), the two
products and quotients of the command set (R133, R163), and the direction read-back (R27). -/

namespace Sys2Proof.Machine

/-- "The whole 32-bit `arg` is compared with 8" (R73). -/
def modeValid (m : Arg) : Bool := decide (m.toNat ≤ maxMode)

/-- `zext_4(m)` of a mode already checked (R103). -/
def modeOf (m : Arg) : Mode := m.setWidth 4

/-- `p / 2`, unsigned integer division (R9, R163). -/
def halfPeriod (p : Arg) : Arg := p / 2

/-- `zext_64(count)` (R135). -/
def stepTotal (count : Arg) : PulseCount := count.setWidth 64

/-- `RevTotal(r, m) = zext_64(r) * STEPS_PER_REV * 2^m` (R133). -/
def revTotal (r : Arg) (m : Mode) : PulseCount :=
  r.setWidth 64 * BitVec.ofNat 64 stepsPerRev * BitVec.ofNat 64 (2 ^ m.toNat)

/-- `ReadLine(DIR)`: the latch under `LOOPBACK`, the free pad level under `PAD` (R27). -/
def State.readDir (s : State) : Level :=
  match s.params.dirReadback with
  | .loopback => s.lines.dir
  | .pad => Config.padLevel s.padDraws

/-- A read of the pad has used up one draw (log 2); `ReadLine(DIR)` has no other side effect (R55). -/
def State.afterReadDir (s : State) : State :=
  match s.params.dirReadback with
  | .loopback => s
  | .pad => { s with padDraws := s.padDraws + 1 }

end Sys2Proof.Machine
end

