-- ==== Sys2Proof/Machine/ModeEncoder.lean ====
section
/-! DEFINITION. The sub-block `mode_encoder_lut`, the mode-configuration sequence, and the commands
`init` and `setStepMode` (`40_mode_encoder.md`). -/

namespace Sys2Proof.Machine

/-- The contents of the LUT space: entries 0..8 are present, 9..15 are absent (R50, R100). -/
def modeTable : List (Nat × Pattern) :=
  [(0, 0b0000), (1, 0b1010), (2, 0b0101), (3, 0b1011), (4, 0b1111),
   (5, 0b0001), (6, 0b0111), (7, 0b0010), (8, 0b0011)]

/-- What `mode_encoder_lut` puts out (R101). -/
structure LutOut where
  valid : Level
  pattern : Pattern
  deriving DecidableEq, Repr

/-- `LutRead(a)`: `(1, LUT[a])` for a present entry, `(0, 0000)` for an absent one (R50, R101). -/
def lutRead (a : Mode) : LutOut :=
  match modeTable.lookup a.toNat with
  | some p => ⟨true, p⟩
  | none => ⟨false, 0⟩

/-- `step_mode <- zext_4(m)`, step 1 of the sequence (R103). -/
def State.storeMode (m : Mode) (s : State) : State := { s with stepMode := m }

/-- `step_period <- DEFAULT_STEP_PERIOD` (R105). -/
def State.loadDefaultPeriod (s : State) : State := { s with stepPeriod := s.params.defaultStepPeriod }

/-- Steps 3 to 6 of the sequence with pattern `pat` (R103). -/
def State.driveMode (pat : Pattern) (s : State) : State :=
  let s := s.setLine .stby false
  let s := s.wait tSettle
  let s := s.setLine .stck (pat.getLsbD 3)
  let s := s.setLine .dir (pat.getLsbD 2)
  let s := s.setLine .mode1 (pat.getLsbD 1)
  let s := s.setLine .mode2 (pat.getLsbD 0)
  s.wait tLatch

/-- `CFG(m)`, the mode-configuration sequence (R103). For `m` in 9..15, which no command presents
(R101), it drives the pattern 0000 that `LutRead` gives (log 9). -/
def State.cfg (m : Mode) (s : State) : State := (s.storeMode m).driveMode (lutRead m).pattern

/-- The meaning of `init` (R105). -/
def execInit (m : Arg) (s : State) : Host.Outcome State Fault Refusal :=
  if modeValid m then
    .next (((s.loadDefaultPeriod.setRunning false).cfg (modeOf m)).respond statusOk 0)
  else .next (s.raise statusInvalidMode)

/-- The meaning of `setStepMode` (R106). -/
def execSetStepMode (m : Arg) (s : State) : Host.Outcome State Fault Refusal :=
  if modeValid m then .next ((s.cfg (modeOf m)).respond statusOk 0)
  else .next (s.raise statusInvalidMode)

end Sys2Proof.Machine
end

