-- ==== Sys2Proof/Machine/Accessors.lean ====
section
/-! DEFINITION. The run-state accessors and `stop` (`42_accessors.md`). -/

namespace Sys2Proof.Machine

/-- The meaning of `getStepMode` (R160). -/
def execGetStepMode (s : State) : Host.Outcome State Fault Refusal :=
  .next (s.respond statusOk (s.stepMode.setWidth 32))

/-- The meaning of `setDirection` (R161). -/
def execSetDirection (d : Level) (s : State) : Host.Outcome State Fault Refusal :=
  .next (((s.setLine .dir d).wait tDir).respond statusOk 0)

/-- The meaning of `getDirection` (R162). -/
def execGetDirection (s : State) : Host.Outcome State Fault Refusal :=
  .next (s.afterReadDir.respond statusOk s.readDir.zext32)

/-- `step_period <- p / 2` (R163). -/
def State.storePeriod (p : Arg) (s : State) : State := { s with stepPeriod := halfPeriod p }

/-- The meaning of `setStepPeriod` (R163). -/
def execSetStepPeriod (p : Arg) (s : State) : Host.Outcome State Fault Refusal :=
  .next ((s.storePeriod p).respond statusOk 0)

/-- The meaning of `getStepPeriod` (R164). -/
def execGetStepPeriod (s : State) : Host.Outcome State Fault Refusal :=
  .next (s.respond statusOk s.stepPeriod)

/-- The meaning of `stop`: first the sequence, then the flag (R165, conflict C4). -/
def execStop (s : State) : Host.Outcome State Fault Refusal :=
  .next (((s.cfg s.stepMode).setRunning false).respond statusOk 0)

end Sys2Proof.Machine
end

