-- ==== Sys2Proof/Machine/Ports.lean ====
section
/-! DEFINITION. The output ports as functions of the state (`10_state.md` rules R26, R28;
`30_encoding.md` rule R81), and what the environment can do to the input ports (R29, R71). -/

namespace Sys2Proof.Machine

/-- `cmd_ready`, "1 exactly when `fsm = IDLE` and `rst = 0`" (R28). -/
def State.cmdReady (s : State) : Level := decide (s.fsm = .idle) && !s.rst

/-- `running_o` (R28). -/
def State.runningO (s : State) : Level := s.running

/-- The port of a line shows its latch (R26): `stby_o`, `stck_o`, `dir_o`, `mode1_o`, `mode2_o`. -/
def State.lineO (l : Line) (s : State) : Level := s.lines.get l

/-- The response ports `rsp_valid`, `rsp_status`, `rsp_data` (R81). -/
def State.responseO (s : State) : Level × BitVec 2 × Arg := (s.rspValid, s.rspStatus, s.rspData)

/-- `cmd_valid` (R71). -/
def State.cmdValid (s : State) : Level := !s.commands.isEmpty

/-- `cmd_word`, meaningful while `cmd_valid` is 1 (R71). -/
def State.cmdWord (s : State) : Option CmdWord := s.commands.head?

/-- A requester presents one more word; the platform puts it behind those already waiting (P4). -/
def State.present (w : CmdWord) (s : State) : State := { s with commands := s.commands ++ [w] }

/-- The environment changes what is presented; the spec asks the requester to keep its word stable,
and says what runs if it does not: "whichever word is on the port in the acceptance cycle" (I16). -/
def State.withCommands (q : List CmdWord) (s : State) : State := { s with commands := q }

/-- The environment drives `rst` (R29). -/
def State.withRst (b : Level) (s : State) : State := { s with rst := b }

end Sys2Proof.Machine
end

