-- ==== Sys2Proof/Machine/PulseGenerator.lean ====
section
/-! DEFINITION. The sub-block `step_pulse_gen`, the preamble and postamble of a run, and the commands
`runSteps` and `runRevolutions` (`41_pulse_generator.md`). -/

namespace Sys2Proof.Machine

/-- `Preamble(d)` (R131). -/
def State.preamble (d : Level) (s : State) : State :=
  let s := s.setRunning true
  let s := s.setLine .stby true
  let s := s.wait tWake
  s.setLine .dir d

/-- `pulse_cnt <- N`, what `start` does (R130). -/
def State.loadPulses (n : PulseCount) (s : State) : State := { s with pulseCnt := n }

/-- `pulse_cnt <- pulse_cnt - 1` (R132). -/
def State.countPulse (s : State) : State := { s with pulseCnt := s.pulseCnt - 1 }

/-- One iteration of the pulse loop, as R132's pseudocode writes it. -/
def State.pulse (s : State) : State :=
  let s := s.setLine .stck true
  let s := s.wait s.stepPeriod
  let s := s.setLine .stck false
  let s := s.countPulse
  s.wait s.stepPeriod

/-- `n` iterations of the pulse loop, one after another (R132). The commands use `pulseTrain`, which
answers the same state without running through the iterations; an obligation says so. -/
def State.pulseLoop : Nat → State → State
  | 0, s => s
  | n + 1, s => State.pulseLoop n s.pulse

/-- `PulseLoop(N)` (R132) in one go: nothing but `pulse_cnt` for `N = 0`; otherwise STCK is left low,
the counters have run out and the trace has `N` pulses more. -/
def State.pulseTrain (n : PulseCount) (s : State) : State :=
  if n = 0 then s.loadPulses 0
  else
    { s with
      lines := s.lines.set .stck false
      presc := 0
      unitCnt := 0
      pulseCnt := 0
      trace := s.trace ++ [.pulses n.toNat s.stepPeriod] }

/-- `Postamble()` (R134). -/
def State.postamble (s : State) : State := s.setRunning false

/-- A run of `n` pulses in direction `d`: preamble, loop, postamble, response (R135, R136). -/
def State.runPulses (n : PulseCount) (d : Level) (s : State) : State :=
  (((s.preamble d).pulseTrain n).postamble).respond statusOk 0

/-- The meaning of `runSteps` (R135). -/
def execRunSteps (count : Arg) (d : Level) (s : State) : Host.Outcome State Fault Refusal :=
  .next (s.runPulses (stepTotal count) d)

/-- The meaning of `runRevolutions`; the total uses the mode held at acceptance (R136). -/
def execRunRevolutions (r : Arg) (d : Level) (s : State) : Host.Outcome State Fault Refusal :=
  .next (s.runPulses (revTotal r s.stepMode) d)

end Sys2Proof.Machine
end

