-- ==== Sys2Proof/Machine/Cycle.lean ====
section
/-! DEFINITION. The reference realisation, one clock cycle at a time (`70_reset_and_hazards.md` rule
R240): what the state is after the rising edge that ends a cycle. The hidden state is R30's. -/

namespace Sys2Proof.Machine

/-- `U` (R7). -/
def State.unitCycles (s : State) : Nat := s.params.cyclesPerUnit

/-- Go to the next micro-operation. -/
def State.goto (f : Fsm) (s : State) : State := { s with fsm := f }

/-- The direction operand of the command in execution, from `cmd_q` (R71, R72). -/
def State.operandDir (s : State) : Level := (fieldsOf s.cmdQ).d

/-- Is the command in execution `stop`? Its sequence is followed by `SetRunning(0)` (R165). -/
def State.isStop (s : State) : Bool := Opcode.ofBits (fieldsOf s.cmdQ).op == some .stop

/-- The pattern on the outputs of `mode_encoder_lut`, addressed by `step_mode` (R50). -/
def State.pattern (s : State) : Pattern := (lutRead s.stepMode).pattern

/-- `done` of `step_pulse_gen`: no pulse is left (R130). -/
def State.pulsesDone (s : State) : Bool := s.pulseCnt == 0

/-- The top of the pulse loop: another pulse, or `done` and the postamble (R130, R132). -/
def State.nextPulse (s : State) : State :=
  if s.pulsesDone then s.goto .clearRunning else s.goto (.line .pulseHigh)

/-- How many time units a wait lasts (R5, R132). -/
def State.waitUnits (k : WaitStep) (s : State) : Arg :=
  match k with
  | .settle => tSettle
  | .latch => tLatch
  | .wake => tWake
  | .high => s.stepPeriod
  | .low => s.stepPeriod
  | .dir => tDir

/-- The micro-operation after a wait (R103, R131, R132, R161, R165). -/
def State.afterWait (k : WaitStep) (s : State) : State :=
  match k with
  | .settle => s.goto (.line .cfgStck)
  | .latch => if s.isStop then s.goto .clearRunning else s.enterRespond statusOk 0
  | .wake => s.goto (.line .runDir)
  | .high => s.goto (.line .pulseLow)
  | .low => s.nextPulse
  | .dir => s.enterRespond statusOk 0

/-- A wait has passed in full: its event is emitted (log 8) and the next micro-operation follows. -/
def State.endWait (k : WaitStep) (s : State) : State := (s.wait (s.waitUnits k)).afterWait k

/-- A wait follows in the next cycle, or, for `Wait(0)`, has passed already: "`Wait(0)` takes 0
cycles" (R240). -/
def State.startWait (k : WaitStep) (s : State) : State :=
  if s.waitUnits k = 0 then s.endWait k
  else { s with fsm := .wait k, presc := 0, unitCnt := s.waitUnits k }

/-- One cycle of a wait: `presc` counts the cycles of a time unit and `unit_cnt` the units left (R30). -/
def State.waitCycle (k : WaitStep) (s : State) : State :=
  if s.presc + 1 < s.unitCycles then { s with presc := s.presc + 1 }
  else if s.unitCnt.toNat ≤ 1 then s.endWait k
  else { s with presc := 0, unitCnt := s.unitCnt - 1 }

/-- The one cycle of a line write (R240). -/
def State.lineCycle (k : LineStep) (s : State) : State :=
  match k with
  | .cfgStby => (s.setLine .stby false).startWait .settle
  | .cfgStck => (s.setLine .stck (s.pattern.getLsbD 3)).goto (.line .cfgDir)
  | .cfgDir => (s.setLine .dir (s.pattern.getLsbD 2)).goto (.line .cfgMode1)
  | .cfgMode1 => (s.setLine .mode1 (s.pattern.getLsbD 1)).goto (.line .cfgMode2)
  | .cfgMode2 => (s.setLine .mode2 (s.pattern.getLsbD 0)).startWait .latch
  | .runStby => (s.setLine .stby true).startWait .wake
  | .runDir => (s.setLine .dir s.operandDir).nextPulse
  | .pulseHigh => (s.setLine .stck true).startWait .high
  | .pulseLow => (s.setLine .stck false).countPulse.startWait .low
  | .setDir => (s.setLine .dir s.operandDir).startWait .dir

/-- The first edge of a run: `pulse_cnt <- N` and `SetRunning(1)` (R240). -/
def State.beginRun (n : PulseCount) (s : State) : State :=
  ((s.loadPulses n).setRunning true).goto (.line .runStby)

/-- What the acceptance edge does for a decoded command: the range check, every register write before
the command's first `Line` or `Wait`, and the value captured for a getter (R240). -/
def State.begin (i : Instr) (s : State) : State :=
  match i with
  | .init m =>
    if modeValid m then
      ((s.loadDefaultPeriod.setRunning false).storeMode (modeOf m)).goto (.line .cfgStby)
    else s.enterRespond statusInvalidMode 0
  | .setStepMode m =>
    if modeValid m then (s.storeMode (modeOf m)).goto (.line .cfgStby)
    else s.enterRespond statusInvalidMode 0
  | .getStepMode => s.enterRespond statusOk (s.stepMode.setWidth 32)
  | .runSteps n _ => s.beginRun (stepTotal n)
  | .runRevolutions r _ => s.beginRun (revTotal r s.stepMode)
  | .stop => (s.storeMode s.stepMode).goto (.line .cfgStby)
  | .setDirection _ => s.goto (.line .setDir)
  | .getDirection => s.afterReadDir.enterRespond statusOk s.readDir.zext32
  | .setStepPeriod p => (s.storePeriod p).enterRespond statusOk 0
  | .getStepPeriod => s.enterRespond statusOk s.stepPeriod

/-- The acceptance edge for the word `w` (R71, R77, R240). -/
def State.acceptEdge (w : CmdWord) (s : State) : State :=
  match decode w with
  | .ok i => (s.accept w).begin i
  | .error _ => (s.accept w).enterRespond statusIllegalCmd 0

/-- One clock cycle: the state after the edge that ends it. With `rst = 1` it is the reset edge (R230);
in `IDLE` a presented word is accepted (R71) and without one nothing changes (R56); otherwise the
micro-operation of `fsm` is executed (R240). -/
def State.cycle (s : State) : State :=
  if s.rst then s.resetEdge
  else
    match s.fsm with
    | .idle =>
      match s.commands with
      | [] => s
      | w :: _ => s.acceptEdge w
    | .line k => s.lineCycle k
    | .wait k => s.waitCycle k
    | .clearRunning => (s.setRunning false).enterRespond statusOk 0
    | .respond => s.finishRespond

/-- `n` clock cycles with the input ports as they stand. -/
def State.cycles : Nat → State → State
  | 0, s => s
  | n + 1, s => State.cycles n s.cycle

/-- The cycles of a run of `n` pulses (R240). -/
def runCycles (n : PulseCount) (s : State) : Nat :=
  100 * s.unitCycles + 5 + n.toNat * (2 * s.stepPeriod.toNat * s.unitCycles + 2)

/-- R240's table: the cycles "from the acceptance cycle through the `Respond` cycle inclusive" of a
command accepted in state `s`. -/
def commandCycles (i : Instr) (s : State) : Nat :=
  match i with
  | .init m => if modeValid m then 200 * s.unitCycles + 7 else 2
  | .setStepMode m => if modeValid m then 200 * s.unitCycles + 7 else 2
  | .getStepMode => 2
  | .runSteps n _ => runCycles (stepTotal n) s
  | .runRevolutions r _ => runCycles (revTotal r s.stepMode) s
  | .stop => 200 * s.unitCycles + 8
  | .setDirection _ => 10 * s.unitCycles + 3
  | .getDirection => 2
  | .setStepPeriod _ => 2
  | .getStepPeriod => 2

/-- The cycles of a word accepted in state `s`; a rejected one takes 2 (R240). -/
def wordCycles (w : CmdWord) (s : State) : Nat :=
  match decode w with
  | .ok i => commandCycles i s
  | .error _ => 2

end Sys2Proof.Machine
end

