-- ==== Sys2Proof/Machine/Dispatch.lean ====
section
/-! DEFINITION. One arm per command: the meaning that runs it (`30_encoding.md` rule R76). -/

namespace Sys2Proof.Machine

def exec (i : Instr) (s : State) : Host.Outcome State Fault Refusal :=
  match i with
  | .init m => Sys2Proof.Machine.execInit m s
  | .setStepMode m => Sys2Proof.Machine.execSetStepMode m s
  | .getStepMode => Sys2Proof.Machine.execGetStepMode s
  | .runSteps n d => Sys2Proof.Machine.execRunSteps n d s
  | .runRevolutions r d => Sys2Proof.Machine.execRunRevolutions r d s
  | .stop => Sys2Proof.Machine.execStop s
  | .setDirection d => Sys2Proof.Machine.execSetDirection d s
  | .getDirection => Sys2Proof.Machine.execGetDirection s
  | .setStepPeriod p => Sys2Proof.Machine.execSetStepPeriod p s
  | .getStepPeriod => Sys2Proof.Machine.execGetStepPeriod s

end Sys2Proof.Machine
end

