-- ==== Sys2Proof/Machine/Fetch.lean ====
section
/-! DEFINITION. What one step of the machine calls: the command on the port run whole (`00_scope.md`
rule R12), and how a word comes to stand on the port. -/

namespace Sys2Proof.Machine

/-- The word on the port is accepted and run whole: decoded, then executed, or rejected (R12, R71, R77). -/
def runWord (w : CmdWord) (s : State) : Host.Outcome State Fault Refusal :=
  match decode w with
  | .ok i => exec i (s.accept w)
  | .error _ => .next ((s.accept w).raise statusIllegalCmd)

/-- One step with `rst = 0`: from `IDLE` the presented command whole, or, with none presented, a cycle
in which nothing changes; in the middle of a command one clock cycle of it (log 3, log 5). -/
def runStep (s : State) : Host.Outcome State Fault Refusal :=
  match s.fsm with
  | .idle =>
    match s.commands with
    | [] => .next s
    | w :: _ => runWord w s
  | .line _ => .next s.cycle
  | .wait _ => .next s.cycle
  | .clearRunning => .next s.cycle
  | .respond => .next s.cycle

/-- One step: `rst` overrides everything (R203); a reserved status is refused (I9). -/
def stepBody (s : State) : Host.Outcome State Fault Refusal :=
  if s.rst then .next s.resetEdge
  else if s.rspStatus = statusReserved then .refused .reservedStatus
  else runStep s

/-- The word put on the port in place of the one there, with the block idle, `rst` released and, if it
is the reserved one, the status code cleared, so that the next step accepts it (log 12). -/
def State.presentNow (w : CmdWord) (s : State) : State :=
  { s with
    rst := false
    fsm := .idle
    rspStatus := if s.rspStatus = statusReserved then statusOk else s.rspStatus
    commands := w :: s.commands.tail }

end Sys2Proof.Machine
end

