-- ==== Sys2Proof/Machine/Step.lean ====
section
/-! DEFINITION. One step of the machine, and how the host places an instruction for the next step. -/

namespace Sys2Proof.Machine

/-- One step (`Machine/Fetch.lean`). -/
def step (s : State) : Host.Outcome State Fault Refusal := stepBody s

/-- The instruction of `nbits` bits `w`, the bits above zero, on the command port (log 12). -/
def State.withFetchWord (s : State) (nbits w : Nat) : State := s.presentNow (tableWord nbits w)

end Sys2Proof.Machine
end

