-- ==== Sys2Proof/Machine/Assembler.lean ====
section
/-! DEFINITION. The assembly language (`30_encoding.md` rules R84 and R85): one command per line, as a
list of characters. Lexical details the rule leaves open are in log 15. -/

namespace Sys2Proof.Machine

/-- The command of a well-formed statement, `none` for an assembly error (R84). -/
def assembleStmt (s : Stmt) : Option Instr :=
  if s.wellFormed then
    some (s.opcode.build (BitVec.ofNat 32 (s.operands.headD 0))
      (s.opcode.format.hasDir && decide (s.operands.getLastD 0 = 1)))
  else none

/-- The mnemonics, "the document's own operation names", case-sensitive (R84). -/
def mnemonic : Opcode → List Char
  | .init => ['i', 'n', 'i', 't']
  | .setStepMode => ['s', 'e', 't', 'S', 't', 'e', 'p', 'M', 'o', 'd', 'e']
  | .getStepMode => ['g', 'e', 't', 'S', 't', 'e', 'p', 'M', 'o', 'd', 'e']
  | .runSteps => ['r', 'u', 'n', 'S', 't', 'e', 'p', 's']
  | .runRevolutions => ['r', 'u', 'n', 'R', 'e', 'v', 'o', 'l', 'u', 't', 'i', 'o', 'n', 's']
  | .stop => ['s', 't', 'o', 'p']
  | .setDirection => ['s', 'e', 't', 'D', 'i', 'r', 'e', 'c', 't', 'i', 'o', 'n']
  | .getDirection => ['g', 'e', 't', 'D', 'i', 'r', 'e', 'c', 't', 'i', 'o', 'n']
  | .setStepPeriod => ['s', 'e', 't', 'S', 't', 'e', 'p', 'P', 'e', 'r', 'i', 'o', 'd']
  | .getStepPeriod => ['g', 'e', 't', 'S', 't', 'e', 'p', 'P', 'e', 'r', 'i', 'o', 'd']

/-- White space within a line (log 15). -/
def isBlank (c : Char) : Bool := c == ' ' || c == '\t'

/-- A line without its comment, which starts with `;` (R84). -/
def stripComment (line : List Char) : List Char := line.takeWhile (fun c => !(c == ';'))

/-- Without white space at both ends. -/
def trimBlanks (cs : List Char) : List Char := ((cs.dropWhile isBlank).reverse.dropWhile isBlank).reverse

/-- The pieces between commas. -/
def splitCommas : List Char → List (List Char)
  | [] => [[]]
  | c :: cs =>
    if c == ',' then [] :: splitCommas cs
    else
      match splitCommas cs with
      | [] => [[c]]
      | piece :: rest => (c :: piece) :: rest

/-- The value of a digit in base 10 or 16. -/
def digitValue (base : Nat) (c : Char) : Option Nat :=
  let n := c.toNat
  let v :=
    if 48 ≤ n ∧ n ≤ 57 then some (n - 48)
    else if 97 ≤ n ∧ n ≤ 102 then some (n - 87)
    else if 65 ≤ n ∧ n ≤ 70 then some (n - 55)
    else none
  v.filter (fun d => decide (d < base))

/-- The value of a string of digits read after the value `acc`. -/
def digitsValue (base : Nat) : Nat → List Char → Option Nat
  | acc, [] => some acc
  | acc, c :: cs =>
    match digitValue base c with
    | some d => digitsValue base (acc * base + d) cs
    | none => none

/-- "A numeric operand is written in decimal or as `0x` hex" (R84). -/
def parseNumber (cs : List Char) : Option Nat :=
  match cs with
  | [] => none
  | '0' :: 'x' :: [] => none
  | '0' :: 'x' :: ds => digitsValue 16 0 ds
  | ds => digitsValue 10 0 ds

/-- "A direction operand is `0` or `1`" (R84). -/
def parseDir (cs : List Char) : Option Nat :=
  if cs = ['0'] then some 0 else if cs = ['1'] then some 1 else none

/-- The operands of a format from the pieces between commas. -/
def parseOperands : Format → List (List Char) → Option (List Nat)
  | .f0, ps => if ps = [[]] then some [] else none
  | .fa, ps => match ps with
    | [a] => (parseNumber a).map (fun n => [n])
    | _ => none
  | .fd, ps => match ps with
    | [d] => (parseDir d).map (fun n => [n])
    | _ => none
  | .fad, ps => match ps with
    | [a, d] => match parseNumber a, parseDir d with
      | some n, some m => some [n, m]
      | _, _ => none
    | _ => none

/-- The statement on a line: `mnemonic operands` and an optional comment (R84). -/
def parseLine (line : List Char) : Option Stmt :=
  let text := trimBlanks (stripComment line)
  let name := text.takeWhile (fun c => !isBlank c)
  let rest := text.dropWhile (fun c => !isBlank c)
  match Opcode.all.find? (fun o => mnemonic o == name) with
  | none => none
  | some o =>
    (parseOperands o.format ((splitCommas rest).map trimBlanks)).map (fun ops => ⟨o, ops⟩)

/-- The word of a line, `none` for an assembly error (R84). -/
def assembleLine (line : List Char) : Option CmdWord :=
  (parseLine line).bind (fun s => (assembleStmt s).map encode)

/-- A line with nothing but white space or a comment holds no command (log 15). -/
def isEmptyLine (line : List Char) : Bool := (trimBlanks (stripComment line)).isEmpty

/-- The words of a list of lines; "a command sequence is a straight list" (R85). -/
def assembleProgram : List (List Char) → Option (List CmdWord)
  | [] => some []
  | line :: rest =>
    if isEmptyLine line then assembleProgram rest
    else
      match assembleLine line, assembleProgram rest with
      | some w, some ws => some (w :: ws)
      | _, _ => none

end Sys2Proof.Machine
end

