-- ==== Sys2Proof/Safety.lean ====
section
/-! DEFINITION. What a legal state is, which states a run can reach, and what an observer counts: the
terms the statements use. -/

namespace Sys2Proof.Machine

/-- Which commands can be in execution at a line write of the reference realisation (R103, R131, R132, R161). -/
def LineStep.commands : LineStep → List Opcode
  | .cfgStby | .cfgStck | .cfgDir | .cfgMode1 | .cfgMode2 => [.init, .setStepMode, .stop]
  | .runStby | .runDir | .pulseHigh | .pulseLow => [.runSteps, .runRevolutions]
  | .setDir => [.setDirection]

/-- Which commands can be in execution in a wait. -/
def WaitStep.commands : WaitStep → List Opcode
  | .settle | .latch => [.init, .setStepMode, .stop]
  | .wake | .high | .low => [.runSteps, .runRevolutions]
  | .dir => [.setDirection]

/-- The command in `cmd_q` is one that has the micro-operation of `fsm` (log 19). -/
def State.CommandFits (s : State) : Prop :=
  match s.fsm with
  | .idle => True
  | .line k => ∃ o ∈ k.commands, Opcode.ofBits (fieldsOf s.cmdQ).op = some o
  | .wait k => ∃ o ∈ k.commands, Opcode.ofBits (fieldsOf s.cmdQ).op = some o
  | .clearRunning => ∃ o ∈ [Opcode.stop, .runSteps, .runRevolutions], Opcode.ofBits (fieldsOf s.cmdQ).op = some o
  | .respond => True

/-- Between the `Run(1)` and the `Run(0)` of a run (R33), by the states of `fsm` (log 19). -/
def State.inRun (s : State) : Bool :=
  match s.fsm with
  | .idle => false
  | .line k => k.commands.contains .runSteps
  | .wait k => k.commands.contains .runSteps
  | .clearRunning => !s.isStop
  | .respond => false

/-- The wait counters: at most the units of the wait and at least one left within a wait (R30), both zero
outside (log 13). -/
def State.CountersFit (s : State) : Prop :=
  match s.fsm with
  | .wait k => 0 < s.unitCnt.toNat ∧ s.unitCnt.toNat ≤ (s.waitUnits k).toNat ∧ s.presc < s.unitCycles
  | .idle | .line _ | .clearRunning | .respond => s.unitCnt = 0 ∧ s.presc = 0

/-- The pulse counter: not zero in the first half of a pulse, anything in the preamble and in the
second half, zero elsewhere (R132). -/
def State.PulsesFit (s : State) : Prop :=
  match s.fsm with
  | .line .pulseHigh | .wait .high | .line .pulseLow => s.pulseCnt ≠ 0
  | .line .runStby | .wait .wake | .line .runDir | .wait .low => True
  | .line .cfgStby | .line .cfgStck | .line .cfgDir | .line .cfgMode1 | .line .cfgMode2 | .line .setDir
  | .wait .settle | .wait .latch | .wait .dir
  | .idle | .clearRunning | .respond => s.pulseCnt = 0

/-- A legal state: what every reachable state satisfies. -/
structure State.Inv (s : State) : Prop where
  /-- `step_mode` is between 0 and 8 (R32). -/
  mode : s.stepMode.toNat ≤ maxMode
  /-- `running` is 1 exactly during a run (R33). -/
  running : s.running = s.inRun
  /-- `rsp_valid` is 1 exactly in a Respond cycle (R31; log 6). -/
  valid : s.rspValid = decide (s.fsm = .respond)
  /-- Status 3 is never produced (R201). -/
  status : s.rspStatus ≠ statusReserved
  /-- `step_period` is the default or a half (R34). -/
  period : s.stepPeriod = s.params.defaultStepPeriod ∨ s.stepPeriod.toNat < 2 ^ 31
  /-- `cmd_q` holds the command in execution (R30; log 19). -/
  command : s.CommandFits
  /-- The wait counters (R30; log 13). -/
  counters : s.CountersFit
  /-- The pulse counter (R30, R132). -/
  pulses : s.PulsesFit

/-- The states a block with parameters `p` can reach under any environment: steps and clock cycles in
any order, with `rst` driven and words presented or changed at will between them (R71, R230, I16). -/
inductive Reachable (p : Params) : State → Prop where
  | reset : Reachable p (State.resetWith p)
  | step {s t : State} : Reachable p s → Machine.step s = .next t → Reachable p t
  | cycle {s : State} : Reachable p s → Reachable p s.cycle
  | driveRst {s : State} (b : Level) : Reachable p s → Reachable p (s.withRst b)
  | drivePort {s : State} (q : List CmdWord) : Reachable p s → Reachable p (s.withCommands q)

/-- A list of commands run one after another, each accepted when the one before has responded (R12). -/
def execAll : List Instr → State → Host.Outcome State Fault Refusal
  | [], s => .next s
  | i :: is, s =>
    match exec i s with
    | .next t => execAll is t
    | .fault f => .fault f
    | .refused r => .refused r

/-- The line latches after the `Wr` events of a trace. -/
def replayLines : List Event → Lines → Lines
  | [], x => x
  | .wr l b :: es, x => replayLines es (x.set l b)
  | _ :: es, x => replayLines es x

/-- The running flag after the `Run` events of a trace. -/
def replayRunning : List Event → Level → Level
  | [], r => r
  | .run b :: es, _ => replayRunning es b
  | _ :: es, r => replayRunning es r

/-- How many times a trace drives STCK from 0 to 1, from the level it starts at (R236). -/
def risingEdges : List Event → Level → Nat
  | [], _ => 0
  | .wr .stck b :: es, l => (if l = false ∧ b = true then 1 else 0) + risingEdges es b
  | _ :: es, l => risingEdges es l

/-- How many times a trace drives STCK from 1 to 0 (R236). -/
def fallingEdges : List Event → Level → Nat
  | [], _ => 0
  | .wr .stck b :: es, l => (if l = true ∧ b = false then 1 else 0) + fallingEdges es b
  | _ :: es, l => fallingEdges es l

/-- The time units a trace waits (R241). -/
def totalWait : List Event → Nat
  | [] => 0
  | .wait n :: es => n.toNat + totalWait es
  | _ :: es => totalWait es

/-- Is the event a response? -/
def Event.isResp : Event → Bool
  | .resp _ _ => true
  | .wr _ _ => false
  | .wait _ => false
  | .run _ => false

/-- The events of `CFG(m)` (R103). -/
def cfgEvents (pat : Pattern) : List Event :=
  [.wr .stby false, .wait tSettle, .wr .stck (pat.getLsbD 3), .wr .dir (pat.getLsbD 2),
   .wr .mode1 (pat.getLsbD 1), .wr .mode2 (pat.getLsbD 0), .wait tLatch]

/-- The events of a run of `n` pulses in direction `d` with half-period `p`, before its response (R135). -/
def runEvents (n : Nat) (d : Level) (p : Arg) : List Event :=
  [.run true, .wr .stby true, .wait tWake, .wr .dir d] ++ trainEvents n p ++ [.run false]

/-- The lines as `CFG` leaves them for a pattern (R104). -/
def cfgLines (pat : Pattern) : Lines :=
  { stby := false, stck := pat.getLsbD 3, dir := pat.getLsbD 2, mode1 := pat.getLsbD 1, mode2 := pat.getLsbD 0 }

/-- From `s` to `t` a response was given: the response registers hold it and the block is idle again,
its strobe over (log 6). -/
def Responded (status : BitVec 2) (data : Arg) (t : State) : Prop :=
  t.rspStatus = status ∧ t.rspData = data ∧ t.fsm = .idle ∧ t.rspValid = false

/-- What no command changes while it runs: `cmd_q`, the input ports, the parameters. -/
def SameSurroundings (s t : State) : Prop :=
  t.cmdQ = s.cmdQ ∧ t.rst = s.rst ∧ t.commands = s.commands ∧ t.params = s.params

/-- The registers, the flag and the latches are unchanged. -/
def SameRegisters (s t : State) : Prop :=
  t.stepMode = s.stepMode ∧ t.stepPeriod = s.stepPeriod ∧ t.running = s.running ∧ t.lines = s.lines

/-- The hidden counters are unchanged. -/
def SameCounters (s t : State) : Prop :=
  t.presc = s.presc ∧ t.unitCnt = s.unitCnt ∧ t.pulseCnt = s.pulseCnt

/-- Nothing happened but the response (R200, R166 (f)): no register, no line, no wait. That
`rsp_valid` is 0 is log 6. -/
def OnlyResponded (status : BitVec 2) (data : Arg) (s t : State) : Prop :=
  Responded status data t ∧ t.events = s.events ++ [.resp status data] ∧ SameRegisters s t ∧
  SameCounters s t ∧ SameSurroundings s t

/-- After a wait both wait counters are zero (log 13); the pulse counter is unchanged. -/
def WaitedCounters (s t : State) : Prop :=
  t.presc = 0 ∧ t.unitCnt = 0 ∧ t.pulseCnt = s.pulseCnt

/-- The number of pulses of one revolution total, as the document writes the product (R133). -/
def revolutionPulses (r : Arg) (m : Mode) : Nat := r.toNat * 2048 * 2 ^ m.toNat

/-- The pulses a command emits (R135, R136). -/
def pulsesOf (i : Instr) (s : State) : Nat :=
  match i with
  | .runSteps n _ => n.toNat
  | .runRevolutions r _ => revolutionPulses r s.stepMode
  | .init _ | .setStepMode _ | .getStepMode | .stop | .setDirection _ | .getDirection | .setStepPeriod _
  | .getStepPeriod => 0

/-- Is the command a run (R131)? -/
def isRun (i : Instr) : Bool := i.opcode == .runSteps || i.opcode == .runRevolutions

/-- R241's table of the time units a command waits; a rejected one waits none (R200). -/
def tableWait (i : Instr) (s : State) : Nat :=
  match i with
  | .init m => if m.toNat ≤ 8 then 200 else 0
  | .setStepMode m => if m.toNat ≤ 8 then 200 else 0
  | .stop => 200
  | .setDirection _ => 10
  | .runSteps _ _ | .runRevolutions _ _ => 100 + 2 * s.stepPeriod.toNat * pulsesOf i s
  | .getStepMode | .getDirection | .setStepPeriod _ | .getStepPeriod => 0

/-- Does the command write `step_period` (R22)? A rejected `init` does not (R200). -/
def writesPeriod (i : Instr) : Bool :=
  match i with
  | .init m => decide (m.toNat ≤ 8)
  | .setStepPeriod _ => true
  | .setStepMode _ | .getStepMode | .runSteps _ _ | .runRevolutions _ _ | .stop | .setDirection _
  | .getDirection | .getStepPeriod => false

/-- The level a command leaves on STCK: pattern bit3 after a sequence, which is 1 for modes 1, 3 and 4;
0 after a run with a pulse; otherwise what it was (R236). -/
def stckAfter (i : Instr) (s : State) : Level :=
  match i with
  | .init m => if m.toNat ≤ 8 then decide (m.toNat ∈ [1, 3, 4]) else s.lines.stck
  | .setStepMode m => if m.toNat ≤ 8 then decide (m.toNat ∈ [1, 3, 4]) else s.lines.stck
  | .stop => decide (s.stepMode.toNat ∈ [1, 3, 4])
  | .runSteps _ _ | .runRevolutions _ _ => if pulsesOf i s = 0 then s.lines.stck else false
  | .getStepMode | .setDirection _ | .getDirection | .setStepPeriod _ | .getStepPeriod => s.lines.stck

end Sys2Proof.Machine
end

