-- ==== Sys2Proof/Certificates/Slice0/Obligations.lean ====
section
/-! DEFINITION. The statements for the provers, each from the rules its docstring names. -/

open Sys2Proof Sys2Proof.Machine

/-! Encoding (`30_encoding.md`). -/

/-- Every command, with every operand at every value, is read back from its word (R70, R77, R84). -/
def Obligations.EncodeThenDecodeGivesTheCommand : Prop :=
  ∀ i : Instr, decode (encode i) = .ok i

/-- A word that decodes to a command is that command's word: no bit of it is ignored (R70, R79). -/
def Obligations.DecodeThenEncodeGivesTheWord : Prop :=
  ∀ (w : CmdWord) (i : Instr), decode w = .ok i → encode i = w

/-- "A word `w` is the command with match `M` and mask `K` (rule R75) exactly when `w & K = M`" (R76). -/
def Obligations.MatchAndMaskDecideTheCommand : Prop :=
  ∀ (w : CmdWord) (o : Opcode),
    (∃ i, decode w = .ok i ∧ i.opcode = o) ↔ w &&& o.format.mask = o.matchWord

/-- `Decode`, its checks in order and, past them, the command with the word's fields (R77). The opcodes
of formats F0 and FA are 1, 2, 3, 6, 8, 9, 10, those of F0 and FD are 3, 6, 7, 8, 10 (R76). -/
def Obligations.DecodeChecksInOrder : Prop :=
  ∀ w : CmdWord,
    if w.extractLsb' 0 4 = 0 ∨ 0xB#4 ≤ w.extractLsb' 0 4 then decode w = .error .reservedOpcode
    else if w.extractLsb' 5 3 ≠ 0 then decode w = .error .reservedBits
    else if (w.extractLsb' 0 4).toNat ∈ [1, 2, 3, 6, 8, 9, 10] ∧ w.extractLsb' 4 1 ≠ 0 then
      decode w = .error .directionNotZero
    else if (w.extractLsb' 0 4).toNat ∈ [3, 6, 7, 8, 10] ∧ w.extractLsb' 8 32 ≠ 0 then
      decode w = .error .argumentNotZero
    else ∃ i, decode w = .ok i ∧ i.opcode.bits = w.extractLsb' 0 4 ∧ i.arg = w.extractLsb' 8 32 ∧
      BitVec.ofBool i.dir = w.extractLsb' 4 1

/-- Words written out from the fields of R70 and the opcodes of R76 (also in R84 and `95_test_vectors.md`). -/
def Obligations.SampleWordsDecode : Prop :=
  decode 0x0000000301 = .ok (.init 3) ∧ decode 0x0000000202 = .ok (.setStepMode 2) ∧
  decode 0x0000000003 = .ok .getStepMode ∧ decode 0x0000000314 = .ok (.runSteps 3 true) ∧
  decode 0x0000000205 = .ok (.runRevolutions 2 false) ∧ decode 0x0000000006 = .ok .stop ∧
  decode 0x0000000017 = .ok (.setDirection true) ∧ decode 0x0000000008 = .ok .getDirection ∧
  decode 0x000003E809 = .ok (.setStepPeriod 1000) ∧ decode 0x000000000A = .ok .getStepPeriod ∧
  decode 0x0000000106 = .error .argumentNotZero ∧ decode 0x0000000013 = .error .directionNotZero ∧
  decode 0x0000000922 = .error .reservedBits ∧ decode 0x000000000B = .error .reservedOpcode

/-- The statement that writes a command is well formed, and it assembles to that command (R84). -/
def Obligations.StatementOfACommandAssembles : Prop :=
  ∀ i : Instr, i.wellFormed = true ∧ assembleStmt i.stmt = some i

/-! The commands (`40_mode_encoder.md`, `41_pulse_generator.md`, `42_accessors.md`). Two things these
statements say are the model's: in the state after a command `rsp_valid` is 0, since it was 1 in the
Respond cycle alone (log 6), and after a wait `presc` and `unit_cnt` are 0 (log 13). -/

/-- The nine patterns, and the failure on the other indices (R50, R100, R101). -/
def Obligations.ModeEncoderTable : Prop :=
  lutRead 0 = ⟨true, 0b0000⟩ ∧ lutRead 1 = ⟨true, 0b1010⟩ ∧ lutRead 2 = ⟨true, 0b0101⟩ ∧
  lutRead 3 = ⟨true, 0b1011⟩ ∧ lutRead 4 = ⟨true, 0b1111⟩ ∧ lutRead 5 = ⟨true, 0b0001⟩ ∧
  lutRead 6 = ⟨true, 0b0111⟩ ∧ lutRead 7 = ⟨true, 0b0010⟩ ∧ lutRead 8 = ⟨true, 0b0011⟩ ∧
  ∀ a : Mode, 8 < a.toNat → lutRead a = ⟨false, 0b0000⟩

/-- `init` with a mode 0..8 completes: default period, running cleared, the sequence, the response (R105).
`rsp_valid` after it is log 6's, the zero `presc` and `unit_cnt` are log 13's. -/
def Obligations.InitAppliesTheMode : Prop :=
  ∀ (s : State) (m : Arg), m.toNat ≤ 8 → ∃ t, exec (.init m) s = .next t ∧
    t.stepMode.toNat = m.toNat ∧ t.stepPeriod = s.params.defaultStepPeriod ∧ t.running = false ∧
    t.lines = cfgLines (lutRead t.stepMode).pattern ∧
    t.events = s.events ++ ([.run false] ++ cfgEvents (lutRead t.stepMode).pattern ++ [.resp statusOk 0]) ∧
    Responded statusOk 0 t ∧ WaitedCounters s t ∧ t.padDraws = s.padDraws ∧ SameSurroundings s t

/-- `setStepMode` with a mode 0..8 completes: the sequence and the response; `running` and
`step_period` are unchanged (R106, R103). `rsp_valid` after it is log 6's, the zero `presc` and `unit_cnt`
are log 13's. -/
def Obligations.SetStepModeAppliesTheMode : Prop :=
  ∀ (s : State) (m : Arg), m.toNat ≤ 8 → ∃ t, exec (.setStepMode m) s = .next t ∧
    t.stepMode.toNat = m.toNat ∧ t.stepPeriod = s.stepPeriod ∧ t.running = s.running ∧
    t.lines = cfgLines (lutRead t.stepMode).pattern ∧
    t.events = s.events ++ (cfgEvents (lutRead t.stepMode).pattern ++ [.resp statusOk 0]) ∧
    Responded statusOk 0 t ∧ WaitedCounters s t ∧ t.padDraws = s.padDraws ∧ SameSurroundings s t

/-- `getStepMode` completes with `zext_32(step_mode)` and does nothing else (R160); `rsp_valid` after
it is log 6's. -/
def Obligations.GetStepModeResponds : Prop :=
  ∀ s : State, ∃ t, exec .getStepMode s = .next t ∧
    OnlyResponded statusOk (s.stepMode.setWidth 32) s t ∧ t.padDraws = s.padDraws

/-- `runSteps` completes: the preamble, exactly `count` pulses, the postamble, the response; its frame
(R135). `rsp_valid` after it is log 6's, the zero `presc` and `unit_cnt` are log 13's. -/
def Obligations.RunStepsEmitsCountPulses : Prop :=
  ∀ (s : State) (count : Arg) (d : Level), ∃ t, exec (.runSteps count d) s = .next t ∧
    t.events = s.events ++ (runEvents count.toNat d s.stepPeriod ++ [.resp statusOk 0]) ∧
    t.lines = { s.lines with stby := true, dir := d, stck := if count.toNat = 0 then s.lines.stck else false } ∧
    t.running = false ∧ t.pulseCnt = 0 ∧ t.presc = 0 ∧ t.unitCnt = 0 ∧
    t.stepMode = s.stepMode ∧ t.stepPeriod = s.stepPeriod ∧
    Responded statusOk 0 t ∧ t.padDraws = s.padDraws ∧ SameSurroundings s t

/-- `runRevolutions` completes with `r * 2048 * 2^step_mode` pulses; its frame (R136, R133).
`rsp_valid` after it is log 6's, the zero `presc` and `unit_cnt` are log 13's. -/
def Obligations.RunRevolutionsEmitsTheProduct : Prop :=
  ∀ (s : State) (r : Arg) (d : Level), ∃ t, exec (.runRevolutions r d) s = .next t ∧
    t.events = s.events ++ (runEvents (revolutionPulses r s.stepMode) d s.stepPeriod ++ [.resp statusOk 0]) ∧
    t.lines = { s.lines with
      stby := true, dir := d, stck := if revolutionPulses r s.stepMode = 0 then s.lines.stck else false } ∧
    t.running = false ∧ t.pulseCnt = 0 ∧ t.presc = 0 ∧ t.unitCnt = 0 ∧
    t.stepMode = s.stepMode ∧ t.stepPeriod = s.stepPeriod ∧
    Responded statusOk 0 t ∧ t.padDraws = s.padDraws ∧ SameSurroundings s t

/-- `stop` completes: the sequence with the stored mode, then `SetRunning(0)`, then the response (R165).
The pattern for a mode above 8 is log 9's, `rsp_valid` after it log 6's, the zero `presc` and `unit_cnt`
log 13's. -/
def Obligations.StopReappliesTheMode : Prop :=
  ∀ s : State, ∃ t, exec .stop s = .next t ∧
    t.stepMode = s.stepMode ∧ t.stepPeriod = s.stepPeriod ∧ t.running = false ∧
    t.lines = cfgLines (lutRead s.stepMode).pattern ∧
    t.events = s.events ++ (cfgEvents (lutRead s.stepMode).pattern ++ [.run false, .resp statusOk 0]) ∧
    Responded statusOk 0 t ∧ WaitedCounters s t ∧ t.padDraws = s.padDraws ∧ SameSurroundings s t

/-- `setDirection` completes: the direction line, a wait of 10, the response, and no other line or
register (R161). `rsp_valid` after it is log 6's, the zero `presc` and `unit_cnt` are log 13's. -/
def Obligations.SetDirectionDrivesTheLine : Prop :=
  ∀ (s : State) (d : Level), ∃ t, exec (.setDirection d) s = .next t ∧
    t.lines = { s.lines with dir := d } ∧
    t.events = s.events ++ [.wr .dir d, .wait 10, .resp statusOk 0] ∧
    t.stepMode = s.stepMode ∧ t.stepPeriod = s.stepPeriod ∧ t.running = s.running ∧
    Responded statusOk 0 t ∧ WaitedCounters s t ∧ t.padDraws = s.padDraws ∧ SameSurroundings s t

/-- `getDirection` completes: under `LOOPBACK` with the latch, under `PAD` with the pad's level, whatever
that free level is, and it does nothing else (R162, R27). That a draw advances the counter of draws is
the model's (log 2), and so is `rsp_valid` after the command (log 6). -/
def Obligations.GetDirectionReadsTheLine : Prop :=
  ∀ s : State,
    (s.params.dirReadback = .loopback → ∃ t, exec .getDirection s = .next t ∧
      OnlyResponded statusOk s.lines.dir.zext32 s t ∧ t.padDraws = s.padDraws) ∧
    (s.params.dirReadback = .pad → ∃ t, exec .getDirection s = .next t ∧
      OnlyResponded statusOk (Config.padLevel s.padDraws).zext32 s t ∧ t.padDraws = s.padDraws + 1)

/-- `setStepPeriod` completes with `p / 2` stored, whole numbers, and no other register or line (R163);
`rsp_valid` after it is log 6's. -/
def Obligations.SetStepPeriodStoresHalf : Prop :=
  ∀ (s : State) (p : Arg), ∃ t, exec (.setStepPeriod p) s = .next t ∧
    t.stepPeriod.toNat = p.toNat / 2 ∧
    t.events = s.events ++ [.resp statusOk 0] ∧ Responded statusOk 0 t ∧
    t.stepMode = s.stepMode ∧ t.running = s.running ∧ t.lines = s.lines ∧
    SameCounters s t ∧ t.padDraws = s.padDraws ∧ SameSurroundings s t

/-- `getStepPeriod` completes with `step_period` and does nothing else (R164); `rsp_valid` after it is
log 6's. -/
def Obligations.GetStepPeriodResponds : Prop :=
  ∀ s : State, ∃ t, exec .getStepPeriod s = .next t ∧
    OnlyResponded statusOk s.stepPeriod s t ∧ t.padDraws = s.padDraws

/-- `RevTotal(r, m)`: the product is exact, equals the shift, and is at most `0x7FFFFFFF80000`, below
2^64; the document's two examples; `m` is the mode held when `runRevolutions` is executed (R133). -/
def Obligations.RevolutionTotalIsExact : Prop :=
  (∀ (r : Arg) (m : Mode), m.toNat ≤ 8 →
    (revTotal r m).toNat = r.toNat * 2048 * 2 ^ m.toNat ∧
    revTotal r m = r.setWidth 64 <<< (11 + m.toNat) ∧
    (revTotal r m).toNat ≤ 0x7FFFFFFF80000) ∧
  (revTotal 0xFFFFFFFF 8).toNat = 2 ^ 51 - 2 ^ 19 ∧
  (revTotal 1 0).toNat = 2048 ∧ (revTotal 2 3).toNat = 32768 ∧
  (∀ (r : Arg) (d : Level) (s : State),
    exec (.runRevolutions r d) s = .next (s.runPulses (revTotal r s.stepMode) d))

/-- The one-go pulse train the runs use is the loop of R132, run `N` times from `pulse_cnt <- N`: the
same state, its trace the same events. -/
def Obligations.PulseTrainIsTheLoop : Prop :=
  ∀ (s : State) (n : PulseCount), ((s.loadPulses n).pulseLoop n.toNat).Agrees (s.pulseTrain n)

/-- What a run leaves (R137), and that STBY, once high, stays high until one of the three commands that
run the mode-configuration sequence. -/
def Obligations.RunLeavesTheLines : Prop :=
  (∀ (i : Instr) (s : State), isRun i = true → ∃ t, exec i s = .next t ∧
    t.lines.stby = true ∧ t.lines.dir = i.dir ∧
    t.lines.stck = (if pulsesOf i s = 0 then s.lines.stck else false) ∧
    t.lines.mode1 = s.lines.mode1 ∧ t.lines.mode2 = s.lines.mode2 ∧
    t.running = false ∧ t.stepMode = s.stepMode ∧ t.stepPeriod = s.stepPeriod ∧ t.pulseCnt = 0 ∧
    t.events = s.events ++ (runEvents (pulsesOf i s) i.dir s.stepPeriod ++ [.resp statusOk 0])) ∧
  (∀ (n : Nat) (d : Level) (p : Arg), Event.wr .stby false ∉ runEvents n d p) ∧
  (∀ (i : Instr) (s t : State), i.opcode ∉ [.init, .setStepMode, .stop] → exec i s = .next t →
    s.lines.stby = true → t.lines.stby = true)

/-- The laws of the accessors, (a) to (f) (R166). That `rsp_valid` is 0 after a getter, which (f) says as
well, is the model's (log 6). -/
def Obligations.AccessorLaws : Prop :=
  (∀ (s : State) (m : Arg), m.toNat ≤ 8 → ∃ t u, exec (.setStepMode m) s = .next t ∧
    exec .getStepMode t = .next u ∧ u.rspStatus = statusOk ∧ u.rspData = m) ∧
  (∀ (s : State) (p : Arg), ∃ t u, exec (.setStepPeriod p) s = .next t ∧
    exec .getStepPeriod t = .next u ∧ u.rspStatus = statusOk ∧ u.rspData.toNat = p.toNat / 2) ∧
  (∀ (s : State) (q : Arg), s.stepPeriod = q → 2 * q.toNat < 2 ^ 32 → ∃ t u,
    exec .getStepPeriod s = .next t ∧ t.rspData = q ∧
    exec (.setStepPeriod (2 * q)) t = .next u ∧ u.stepPeriod = q) ∧
  (∀ (s t : State) (p : Arg), exec (.setStepPeriod p) s = .next t → 2 * t.stepPeriod.toNat < 2 ^ 32) ∧
  (∀ (s : State) (d : Level), s.params.dirReadback = .loopback → ∃ t u, exec (.setDirection d) s = .next t ∧
    exec .getDirection t = .next u ∧ u.rspStatus = statusOk ∧ u.rspData = d.zext32) ∧
  (∀ s : State, ∃ t, exec .stop s = .next t ∧ t.stepMode = s.stepMode ∧ t.running = false) ∧
  (∀ (s : State) (i : Instr), i ∈ [.getStepMode, .getDirection, .getStepPeriod] →
    ∃ t d, exec i s = .next t ∧ OnlyResponded statusOk d s t)

/-! Errors and responses (`60_exceptions.md`, `30_encoding.md`). -/

/-- An error does nothing but `Respond(status, 0)`: an illegal word, and a mode above 8 (R200). That
one step is the whole command (log 3) and that `rsp_valid` is 0 after it (log 6) are the model's. -/
def Obligations.ErrorsOnlyRespond : Prop :=
  ∀ (s : State) (w : CmdWord) (q : List CmdWord),
    s.rst = false → s.rspStatus ≠ statusReserved → s.fsm = .idle → s.commands = w :: q →
    (∀ r, decode w = .error r → ∃ t, step s = .next t ∧
      OnlyResponded statusIllegalCmd 0 (s.accept w) t ∧ t.padDraws = s.padDraws) ∧
    (∀ m : Arg, 8 < m.toNat → (decode w = .ok (.init m) ∨ decode w = .ok (.setStepMode m)) →
      ∃ t, step s = .next t ∧
        OnlyResponded statusInvalidMode 0 (s.accept w) t ∧ t.padDraws = s.padDraws)

/-- Which error is reported: `rst` before all, then `Decode`'s, then `InvalidMode`; and R203's example.
That one step is the whole command is the model's (log 3). -/
def Obligations.ErrorPriority : Prop :=
  (∀ s : State, s.rst = true → step s = .next s.resetEdge ∧ s.cycle = s.resetEdge) ∧
  (∀ (s : State) (w : CmdWord) (q : List CmdWord),
    s.rst = false → s.rspStatus ≠ statusReserved → s.fsm = .idle → s.commands = w :: q →
    (∀ r, decode w = .error r → ∃ t, step s = .next t ∧ t.rspStatus = statusIllegalCmd) ∧
    (∀ m : Arg, 8 < m.toNat → (decode w = .ok (.init m) ∨ decode w = .ok (.setStepMode m)) →
      ∃ t, step s = .next t ∧ t.rspStatus = statusInvalidMode) ∧
    (w = 0x0000000922 → ∃ t, step s = .next t ∧ t.rspStatus = statusIllegalCmd))

/-- `Respond` writes status and data, strobes `rsp_valid` for one cycle, returns `fsm` to `IDLE` and emits
its event; every command, and every accepted word, a rejected one too, ends with exactly one response
(R82); a clock cycle without reset that does not lead into a Respond cycle keeps `rsp_status` and
`rsp_data` (R31, R81, I19). In which cycle the registers are written and the strobe is high, and that it
is low after a command, is the model's reading (log 6). -/
def Obligations.EveryCommandRespondsOnceAndLast : Prop :=
  (∀ (s : State) (st : BitVec 2) (d : Arg), s.rst = false →
    (s.enterRespond st d).fsm = .respond ∧ (s.enterRespond st d).responseO = (true, st, d) ∧
    (s.enterRespond st d).cycle.fsm = .idle ∧ (s.enterRespond st d).cycle.responseO = (false, st, d) ∧
    (s.enterRespond st d).cycle.events = s.events ++ [.resp st d]) ∧
  (∀ (i : Instr) (s t : State), exec i s = .next t → ∃ es st d,
    t.events = s.events ++ (es ++ [.resp st d]) ∧ (∀ e ∈ es, e.isResp = false) ∧ Responded st d t) ∧
  (∀ (w : CmdWord) (s t : State), runWord w s = .next t → ∃ es st d,
    t.events = s.events ++ (es ++ [.resp st d]) ∧ (∀ e ∈ es, e.isResp = false) ∧ Responded st d t) ∧
  (∀ s : State, s.rst = false → s.cycle.fsm ≠ .respond →
    s.cycle.rspStatus = s.rspStatus ∧ s.cycle.rspData = s.rspData)

/-! Whole-machine rules. -/

/-- Which commands write which state (R36, its writes column). -/
def Obligations.CommandsWriteOnlyTheirState : Prop :=
  ∀ (i : Instr) (s t : State), exec i s = .next t →
    (i.opcode ∉ [.init, .setStepMode] → t.stepMode = s.stepMode) ∧
    (i.opcode ∉ [.init, .setStepPeriod] → t.stepPeriod = s.stepPeriod) ∧
    (i.opcode ∉ [.init, .runSteps, .runRevolutions, .stop] → t.running = s.running) ∧
    (i.opcode ∉ [.runSteps, .runRevolutions] → t.pulseCnt = s.pulseCnt) ∧
    (i.opcode ∉ [.init, .setStepMode, .stop, .runSteps, .runRevolutions] →
      t.lines.stby = s.lines.stby ∧ t.lines.stck = s.lines.stck) ∧
    (i.opcode ∉ [.init, .setStepMode, .stop, .runSteps, .runRevolutions, .setDirection] →
      t.lines.dir = s.lines.dir) ∧
    (i.opcode ∉ [.init, .setStepMode, .stop] →
      t.lines.mode1 = s.lines.mode1 ∧ t.lines.mode2 = s.lines.mode2) ∧
    SameSurroundings s t

/-- A latch changes only by a `Wr` event and the flag only by a `Run` event, in a command and, without
reset, in a clock cycle (R10, R26). -/
def Obligations.LatchesFollowTheTrace : Prop :=
  (∀ (i : Instr) (s t : State), exec i s = .next t → ∃ es, t.events = s.events ++ es ∧
    t.lines = replayLines es s.lines ∧ t.running = replayRunning es s.running) ∧
  (∀ s : State, s.rst = false → ∃ es, s.cycle.events = s.events ++ es ∧
    s.cycle.lines = replayLines es s.lines ∧ s.cycle.running = replayRunning es s.running)

/-- No command reads the running flag, the hidden counters, `cmd_q`, the response registers or the input
ports: changing them changes neither the events nor the registers and lines it leaves, nor the flag that
a command which completes OK writes (R24, R30). -/
def Obligations.CommandsDoNotReadHiddenState : Prop :=
  ∀ (i : Instr) (s t s' t' : State), exec i s = .next t → exec i s' = .next t' →
    s'.stepMode = s.stepMode → s'.stepPeriod = s.stepPeriod → s'.lines = s.lines → s'.params = s.params →
    s'.padDraws = s.padDraws →
    t'.stepMode = t.stepMode ∧ t'.stepPeriod = t.stepPeriod ∧ t'.lines = t.lines ∧
    t'.rspStatus = t.rspStatus ∧ t'.rspData = t.rspData ∧
    (i.opcode ∈ [.init, .runSteps, .runRevolutions, .stop] → t.rspStatus = statusOk →
      t'.running = t.running) ∧
    (∃ es, t.events = s.events ++ es ∧ t'.events = s'.events ++ es)

/-- The mode-configuration sequence overwrites the direction line, and a run drives its own direction
before its first pulse and no other afterwards (R235). -/
def Obligations.SequenceOverwritesTheDirection : Prop :=
  (∀ (i : Instr) (s t : State), i.opcode ∈ [.init, .setStepMode, .stop] → exec i s = .next t →
    t.rspStatus = statusOk →
    t.lines.dir = (lutRead t.stepMode).pattern.getLsbD 2 ∧
    (t.params.dirReadback = .loopback → ∃ u, exec .getDirection t = .next u ∧
      u.rspData = Level.zext32 ((lutRead t.stepMode).pattern.getLsbD 2))) ∧
  (∀ (i : Instr) (s t : State), isRun i = true → exec i s = .next t → ∃ pre post,
    t.events = s.events ++ (pre ++ [.wr .dir i.dir] ++ post) ∧
    (∀ e ∈ pre, ∀ b, e ≠ .wr .stck b) ∧ (∀ e ∈ post, ∀ b, e ≠ .wr .dir b))

/-- A run that starts with STCK high makes one rising edge less than it makes pulses; STCK is left high
exactly by the sequence for modes 1, 3 and 4, and reset leaves it low (R236). -/
def Obligations.RisingEdgesOfARun : Prop :=
  (∀ (i : Instr) (s t : State), isRun i = true → 1 ≤ pulsesOf i s → exec i s = .next t →
    ∃ es, t.events = s.events ++ es ∧ fallingEdges es s.lines.stck = pulsesOf i s ∧
      risingEdges es s.lines.stck = (if s.lines.stck = true then pulsesOf i s - 1 else pulsesOf i s)) ∧
  (∀ (i : Instr) (s t : State), exec i s = .next t → t.lines.stck = stckAfter i s) ∧
  (∀ s : State, s.rst = true → s.cycle.lines.stck = false)

/-- The time units each command waits, and those of a pulse train alone (R241). -/
def Obligations.WaitTotals : Prop :=
  (∀ (i : Instr) (s t : State), exec i s = .next t → ∃ es, t.events = s.events ++ es ∧
    totalWait es = tableWait i s) ∧
  (∀ (n : Nat) (p : Arg), totalWait (trainEvents n p) = 2 * p.toNat * n)

/-- `step_period` is half of the latest `setStepPeriod`'s argument, or the default when there was none
since the last reset or `init` (R34). -/
def Obligations.StepPeriodIsTheLatest : Prop :=
  ∀ (p : Params) (is : List Instr), ∃ t, execAll is (State.resetWith p) = .next t ∧
    (∀ pre q post, is = pre ++ .setStepPeriod q :: post → (∀ i ∈ post, writesPeriod i = false) →
      t.stepPeriod.toNat = q.toNat / 2) ∧
    (∀ pre m post, is = pre ++ .init m :: post → m.toNat ≤ 8 → (∀ i ∈ post, writesPeriod i = false) →
      t.stepPeriod = p.defaultStepPeriod) ∧
    ((∀ i ∈ is, writesPeriod i = false) → t.stepPeriod = p.defaultStepPeriod)

/-! Reset (`10_state.md`, `70_reset_and_hazards.md`). -/

/-- Every element of R20 has R35's value, right after reset and after any edge with `rst = 1`; the lines
are those the sequence leaves for mode 0. -/
def Obligations.ResetValues : Prop :=
  (∀ (p : Params) (s : State), (s = State.resetWith p ∨ ∃ u : State, u.rst = true ∧ u.params = p ∧ step u = .next s) →
    s.stepMode = 0 ∧ s.stepPeriod = p.defaultStepPeriod ∧ s.running = false ∧
    s.lines = ⟨false, false, false, false, false⟩ ∧ s.fsm = .idle ∧ s.presc = 0 ∧ s.unitCnt = 0 ∧
    s.pulseCnt = 0 ∧ s.cmdQ = 0 ∧ s.rspValid = false ∧ s.rspStatus = statusOk ∧ s.rspData = 0) ∧
  State.reset = State.resetWith Config.params ∧
  cfgLines (lutRead 0).pattern = ⟨false, false, false, false, false⟩

/-- An edge with `rst = 1`: reset values at once whatever the micro-operation, no response, the emitted
trace stands and nothing is added, no command is accepted (R230). -/
def Obligations.ResetAbandonsTheCommand : Prop :=
  ∀ s : State, s.rst = true →
    s.cmdReady = false ∧ s.cycle.commands = s.commands ∧ s.cycle.events = s.events ∧
    s.cycle.rspValid = false ∧ s.cycle.runningO = false ∧
    (∀ l, s.cycle.lineO l = false) ∧
    s.cycle.stepMode = 0 ∧ s.cycle.stepPeriod = s.params.defaultStepPeriod ∧ s.cycle.fsm = .idle ∧
    s.cycle.presc = 0 ∧ s.cycle.unitCnt = 0 ∧ s.cycle.pulseCnt = 0 ∧ s.cycle.cmdQ = 0 ∧
    s.cycle.rspStatus = 0 ∧ s.cycle.rspData = 0

/-- In the first cycle with `rst = 0` after reset the block is ready and accepts a word in that very
cycle; no sequence has run: the lines are low and no event was emitted (R231). -/
def Obligations.ReadyRightAfterReset : Prop :=
  ∀ (s : State) (w : CmdWord) (q : List CmdWord), s.rst = true →
    (s.cycle.withRst false).fsm = .idle ∧ (s.cycle.withRst false).cmdReady = true ∧
    (s.cycle.withRst false).events = s.events ∧ (∀ l, (s.cycle.withRst false).lineO l = false) ∧
    (((s.cycle.withRst false).withCommands (w :: q)).cycle.cmdQ = w ∧
     ((s.cycle.withRst false).withCommands (w :: q)).cycle.commands = q)

/-! The step of the machine. -/

/-- From `IDLE` with `rst = 0`, a step is the decoded command on the state in which its word has been
accepted, or the rejection (R12, R71, R77). -/
def Obligations.StepRunsThePresentedCommand : Prop :=
  ∀ (s : State) (w : CmdWord) (q : List CmdWord),
    s.rst = false → s.rspStatus ≠ statusReserved → s.fsm = .idle → s.commands = w :: q →
    (∀ i, decode w = .ok i → step s = exec i { s with cmdQ := w, commands := q }) ∧
    (∀ r, decode w = .error r →
      step s = .next (State.raise statusIllegalCmd { s with cmdQ := w, commands := q }))

/-- The other steps: reset first of all; with no word presented an idle block stays as it is; in the
middle of a command a step is one clock cycle (R56, R230; the choice of step is the model's, log 3). -/
def Obligations.StepWithoutACommandOrMidCommand : Prop :=
  (∀ s : State, s.rst = true → step s = .next s.resetEdge) ∧
  (∀ s : State, s.rst = false → s.rspStatus ≠ statusReserved →
    (s.fsm = .idle → s.commands = [] → step s = .next s) ∧
    (s.fsm ≠ .idle → step s = .next s.cycle))

/-- A step refuses exactly in a state whose `rsp_status` is the reserved code, when `rst` is 0 (I9). -/
def Obligations.StepRefusesOnlyReservedStatus : Prop :=
  ∀ s : State, (∃ r, step s = .refused r) ↔ (s.rst = false ∧ s.rspStatus = statusReserved)

/-- The word the host places is the command the next step runs. How a word comes to stand on the port
(log 12) and that one step is the whole command (log 3) are the model's. -/
def Obligations.PlacedWordRunsNext : Prop :=
  ∀ (s : State) (nbits w : Nat) (i : Instr), decodeTableWord nbits w = some i →
    step (s.withFetchWord nbits w) = exec i ((s.withFetchWord nbits w).accept (encode i))

/-! Invariants. `State.Inv` says, beside what the spec states of a reachable state, three things that are
the model's: when `rsp_valid` is 1 (log 6), that `presc` and `unit_cnt` are 0 outside a wait (log 13), and
which micro-operations the command in `cmd_q` has (log 19). -/

/-- The state after reset is legal, for every choice of the open parameters (R32, R33, R35). `State.Inv`
carries log 6, log 13 and log 19. -/
def Obligations.ResetStateIsLegal : Prop :=
  ∀ p : Params, (State.resetWith p).Inv

/-- Every step keeps the legal states, reset edges, whole commands and single cycles alike. `State.Inv`
carries log 6 (`rsp_valid`), log 13 (the wait counters) and log 19 (`fsm` and `cmd_q`). -/
def Obligations.StepKeepsLegalStates : Prop :=
  ∀ s t : State, s.Inv → step s = .next t → t.Inv

/-- Every clock cycle keeps the legal states. `State.Inv` carries log 6 (`rsp_valid`), log 13 (the wait
counters) and log 19 (`fsm` and `cmd_q`). -/
def Obligations.CycleKeepsLegalStates : Prop :=
  ∀ s : State, s.Inv → s.cycle.Inv

/-- From a legal state the machine never stops: a step always gives a next state (R214), which is
legal: `State.Inv` carries log 6 (`rsp_valid`), log 13 (the wait counters) and log 19 (`fsm` and `cmd_q`). -/
def Obligations.LegalStatesNeverStop : Prop :=
  ∀ s : State, s.Inv → ∃ t, step s = .next t ∧ t.Inv

/-- "`step_mode` is between 0 and 8 in every reachable state", under every environment (R32). -/
def Obligations.StepModeIsAlwaysLegal : Prop :=
  ∀ (p : Params) (s : State), Reachable p s → s.stepMode.toNat ≤ 8 ∧ (lutRead s.stepMode).valid = true

/-- In every reachable state `running` is 1 exactly in the micro-operations between the `Run(1)` and the
`Run(0)` of a run, so it is 0 in `IDLE`; the edges that enter and leave are those events (R33).
Which states of `fsm` these are is the model's (log 19). -/
def Obligations.RunningExactlyDuringRuns : Prop :=
  ∀ (p : Params) (s : State), Reachable p s →
    s.params = p ∧ s.running = s.inRun ∧ (s.fsm = .idle → s.running = false) ∧
    (s.rst = false → s.running = false → s.cycle.running = true →
      s.fsm = .idle ∧ s.cycle.events = s.events ++ [.run true]) ∧
    (s.rst = false → s.running = true → s.cycle.running = false →
      s.fsm = .clearRunning ∧ s.cycle.events = s.events ++ [.run false])

/-! The reference realisation (`70_reset_and_hazards.md`). -/

/-- A word is taken exactly in a cycle with `cmd_valid = 1` and `cmd_ready = 1`, into `cmd_q`, and the block
is busy from the next cycle on; while it is not ready what is presented is held (R71); that
an idle cycle with no word changes nothing is log 5 (R56, R213). -/
def Obligations.HandshakeTakesOneWord : Prop :=
  ∀ s : State,
    (∀ w q, s.cmdReady = true → s.commands = w :: q →
      s.cycle.cmdQ = w ∧ s.cycle.commands = q ∧ s.cycle.cmdReady = false) ∧
    (s.cmdReady = true → s.cmdValid = false → s.cycle = s) ∧
    (s.cmdReady = false → s.cycle.commands = s.commands)

/-- At most one line latch changes in a clock cycle without reset (R58; at a reset edge all may, R230). -/
def Obligations.AtMostOneLatchPerCycle : Prop :=
  ∀ s : State, s.rst = false → ∃ l, ∀ l', l' ≠ l → s.cycle.lines.get l' = s.lines.get l'

/-- What is presented while a command executes has no effect on it: it is held, and neither `stop` nor any
other word shortens a run (R61, R167, R238). -/
def Obligations.PresentedWordsDoNotDisturb : Prop :=
  ∀ (s : State) (q : List CmdWord) (k : Nat), s.rst = false → (∀ j < k, (s.cycles j).fsm ≠ .idle) →
    (s.withCommands q).cycles k = (s.cycles k).withCommands q

/-- The reference realisation, run for the number of cycles in R240's table, reaches the state that the
untimed command reaches, with the same events (R11, R240). The states compared hold all
fields: log 3, log 6, log 8, log 10 and log 13 apply. -/
def Obligations.ReferenceRealisesTheCommand : Prop :=
  ∀ (s t : State) (w : CmdWord) (q : List CmdWord),
    s.rst = false → s.rspStatus ≠ statusReserved → s.fsm = .idle → s.commands = w :: q →
    step s = .next t → (s.cycles (wordCycles w s)).Agrees t

/-- Between acceptance and the end of the Respond cycle the block is not ready; it strobes `rsp_valid` in
the last cycle alone; then it is ready again: R240's table counts the command's cycles (R71, R240). The
timing is the reference realisation's (log 17), the strobe's cycle is log 6's. -/
def Obligations.BusyForTheTableCycles : Prop :=
  ∀ (s : State) (w : CmdWord) (q : List CmdWord),
    s.rst = false → s.fsm = .idle → s.rspValid = false → s.commands = w :: q →
    (∀ j, 0 < j → j < wordCycles w s →
      (s.cycles j).cmdReady = false ∧ (s.cycles j).rspValid = decide (j + 1 = wordCycles w s)) ∧
    (s.cycles (wordCycles w s)).cmdReady = true ∧ (s.cycles (wordCycles w s)).rspValid = false

/-- The waveform of a run of `N` pulses with half-period `p` and `U` cycles in a time unit (R242), in the
reference timing. -/
def Obligations.RunWaveform : Prop :=
  ∀ (s : State) (w : CmdWord) (q : List CmdWord) (i : Instr) (n p u : Nat),
    s.rst = false → s.fsm = .idle → s.commands = w :: q → decode w = .ok i → isRun i = true →
    pulsesOf i s = n → s.stepPeriod.toNat = p → s.unitCycles = u →
    wordCycles w s = 100 * u + 5 + n * (2 * p * u + 2) ∧
    (∀ j, 1 ≤ j → j + 1 < wordCycles w s → (s.cycles j).runningO = true) ∧
    (s.cycles (wordCycles w s - 1)).runningO = false ∧
    (s.cycles 1).lineO .stby = s.lineO .stby ∧
    (∀ j, 2 ≤ j → j ≤ wordCycles w s → (s.cycles j).lineO .stby = true) ∧
    (∀ j, j ≤ 100 * u + 2 → (s.cycles j).lineO .dir = s.lineO .dir) ∧
    (∀ j, 100 * u + 3 ≤ j → j ≤ wordCycles w s → (s.cycles j).lineO .dir = i.dir) ∧
    (∀ j, j ≤ 100 * u + 3 → (s.cycles j).lineO .stck = s.lineO .stck) ∧
    (∀ k c, k < n → c < 2 * p * u + 2 →
      (s.cycles (100 * u + 4 + k * (2 * p * u + 2) + c)).lineO .stck = decide (c < p * u + 1))
end

