-- ==== Sys2Proof/Laws/State.lean ====
section
/-! SUPPORT. What each primitive operation does to each field of the state: one lemma per operation and
field, so that no later proof unfolds a record update. -/

namespace Sys2Proof.Machine

variable (s : State)

@[simp] theorem State.emit_stepMode (e : Event) : (s.emit e).stepMode = s.stepMode := rfl
@[simp] theorem State.emit_stepPeriod (e : Event) : (s.emit e).stepPeriod = s.stepPeriod := rfl
@[simp] theorem State.emit_running (e : Event) : (s.emit e).running = s.running := rfl
@[simp] theorem State.emit_lines (e : Event) : (s.emit e).lines = s.lines := rfl
@[simp] theorem State.emit_rspValid (e : Event) : (s.emit e).rspValid = s.rspValid := rfl
@[simp] theorem State.emit_rspStatus (e : Event) : (s.emit e).rspStatus = s.rspStatus := rfl
@[simp] theorem State.emit_rspData (e : Event) : (s.emit e).rspData = s.rspData := rfl
@[simp] theorem State.emit_fsm (e : Event) : (s.emit e).fsm = s.fsm := rfl
@[simp] theorem State.emit_presc (e : Event) : (s.emit e).presc = s.presc := rfl
@[simp] theorem State.emit_unitCnt (e : Event) : (s.emit e).unitCnt = s.unitCnt := rfl
@[simp] theorem State.emit_pulseCnt (e : Event) : (s.emit e).pulseCnt = s.pulseCnt := rfl
@[simp] theorem State.emit_cmdQ (e : Event) : (s.emit e).cmdQ = s.cmdQ := rfl
@[simp] theorem State.emit_rst (e : Event) : (s.emit e).rst = s.rst := rfl
@[simp] theorem State.emit_commands (e : Event) : (s.emit e).commands = s.commands := rfl
@[simp] theorem State.emit_params (e : Event) : (s.emit e).params = s.params := rfl
@[simp] theorem State.emit_padDraws (e : Event) : (s.emit e).padDraws = s.padDraws := rfl
@[simp] theorem State.emit_trace (e : Event) : (s.emit e).trace = s.trace ++ [.event e] := rfl

@[simp] theorem State.setLine_stepMode (l : Line) (b : Level) : (s.setLine l b).stepMode = s.stepMode := rfl
@[simp] theorem State.setLine_stepPeriod (l : Line) (b : Level) : (s.setLine l b).stepPeriod = s.stepPeriod := rfl
@[simp] theorem State.setLine_running (l : Line) (b : Level) : (s.setLine l b).running = s.running := rfl
@[simp] theorem State.setLine_lines (l : Line) (b : Level) : (s.setLine l b).lines = s.lines.set l b := rfl
@[simp] theorem State.setLine_rspValid (l : Line) (b : Level) : (s.setLine l b).rspValid = s.rspValid := rfl
@[simp] theorem State.setLine_rspStatus (l : Line) (b : Level) : (s.setLine l b).rspStatus = s.rspStatus := rfl
@[simp] theorem State.setLine_rspData (l : Line) (b : Level) : (s.setLine l b).rspData = s.rspData := rfl
@[simp] theorem State.setLine_fsm (l : Line) (b : Level) : (s.setLine l b).fsm = s.fsm := rfl
@[simp] theorem State.setLine_presc (l : Line) (b : Level) : (s.setLine l b).presc = s.presc := rfl
@[simp] theorem State.setLine_unitCnt (l : Line) (b : Level) : (s.setLine l b).unitCnt = s.unitCnt := rfl
@[simp] theorem State.setLine_pulseCnt (l : Line) (b : Level) : (s.setLine l b).pulseCnt = s.pulseCnt := rfl
@[simp] theorem State.setLine_cmdQ (l : Line) (b : Level) : (s.setLine l b).cmdQ = s.cmdQ := rfl
@[simp] theorem State.setLine_rst (l : Line) (b : Level) : (s.setLine l b).rst = s.rst := rfl
@[simp] theorem State.setLine_commands (l : Line) (b : Level) : (s.setLine l b).commands = s.commands := rfl
@[simp] theorem State.setLine_params (l : Line) (b : Level) : (s.setLine l b).params = s.params := rfl
@[simp] theorem State.setLine_padDraws (l : Line) (b : Level) : (s.setLine l b).padDraws = s.padDraws := rfl
@[simp] theorem State.setLine_trace (l : Line) (b : Level) : (s.setLine l b).trace = s.trace ++ [.event (.wr l b)] := rfl

@[simp] theorem State.wait_stepMode (n : Arg) : (s.wait n).stepMode = s.stepMode := rfl
@[simp] theorem State.wait_stepPeriod (n : Arg) : (s.wait n).stepPeriod = s.stepPeriod := rfl
@[simp] theorem State.wait_running (n : Arg) : (s.wait n).running = s.running := rfl
@[simp] theorem State.wait_lines (n : Arg) : (s.wait n).lines = s.lines := rfl
@[simp] theorem State.wait_rspValid (n : Arg) : (s.wait n).rspValid = s.rspValid := rfl
@[simp] theorem State.wait_rspStatus (n : Arg) : (s.wait n).rspStatus = s.rspStatus := rfl
@[simp] theorem State.wait_rspData (n : Arg) : (s.wait n).rspData = s.rspData := rfl
@[simp] theorem State.wait_fsm (n : Arg) : (s.wait n).fsm = s.fsm := rfl
@[simp] theorem State.wait_presc (n : Arg) : (s.wait n).presc = 0 := rfl
@[simp] theorem State.wait_unitCnt (n : Arg) : (s.wait n).unitCnt = 0 := rfl
@[simp] theorem State.wait_pulseCnt (n : Arg) : (s.wait n).pulseCnt = s.pulseCnt := rfl
@[simp] theorem State.wait_cmdQ (n : Arg) : (s.wait n).cmdQ = s.cmdQ := rfl
@[simp] theorem State.wait_rst (n : Arg) : (s.wait n).rst = s.rst := rfl
@[simp] theorem State.wait_commands (n : Arg) : (s.wait n).commands = s.commands := rfl
@[simp] theorem State.wait_params (n : Arg) : (s.wait n).params = s.params := rfl
@[simp] theorem State.wait_padDraws (n : Arg) : (s.wait n).padDraws = s.padDraws := rfl
@[simp] theorem State.wait_trace (n : Arg) : (s.wait n).trace = s.trace ++ [.event (.wait n)] := rfl

@[simp] theorem State.setRunning_stepMode (b : Level) : (s.setRunning b).stepMode = s.stepMode := rfl
@[simp] theorem State.setRunning_stepPeriod (b : Level) : (s.setRunning b).stepPeriod = s.stepPeriod := rfl
@[simp] theorem State.setRunning_running (b : Level) : (s.setRunning b).running = b := rfl
@[simp] theorem State.setRunning_lines (b : Level) : (s.setRunning b).lines = s.lines := rfl
@[simp] theorem State.setRunning_rspValid (b : Level) : (s.setRunning b).rspValid = s.rspValid := rfl
@[simp] theorem State.setRunning_rspStatus (b : Level) : (s.setRunning b).rspStatus = s.rspStatus := rfl
@[simp] theorem State.setRunning_rspData (b : Level) : (s.setRunning b).rspData = s.rspData := rfl
@[simp] theorem State.setRunning_fsm (b : Level) : (s.setRunning b).fsm = s.fsm := rfl
@[simp] theorem State.setRunning_presc (b : Level) : (s.setRunning b).presc = s.presc := rfl
@[simp] theorem State.setRunning_unitCnt (b : Level) : (s.setRunning b).unitCnt = s.unitCnt := rfl
@[simp] theorem State.setRunning_pulseCnt (b : Level) : (s.setRunning b).pulseCnt = s.pulseCnt := rfl
@[simp] theorem State.setRunning_cmdQ (b : Level) : (s.setRunning b).cmdQ = s.cmdQ := rfl
@[simp] theorem State.setRunning_rst (b : Level) : (s.setRunning b).rst = s.rst := rfl
@[simp] theorem State.setRunning_commands (b : Level) : (s.setRunning b).commands = s.commands := rfl
@[simp] theorem State.setRunning_params (b : Level) : (s.setRunning b).params = s.params := rfl
@[simp] theorem State.setRunning_padDraws (b : Level) : (s.setRunning b).padDraws = s.padDraws := rfl
@[simp] theorem State.setRunning_trace (b : Level) : (s.setRunning b).trace = s.trace ++ [.event (.run b)] := rfl

@[simp] theorem State.enterRespond_stepMode (st : BitVec 2) (d : Arg) : (s.enterRespond st d).stepMode = s.stepMode := rfl
@[simp] theorem State.enterRespond_stepPeriod (st : BitVec 2) (d : Arg) : (s.enterRespond st d).stepPeriod = s.stepPeriod := rfl
@[simp] theorem State.enterRespond_running (st : BitVec 2) (d : Arg) : (s.enterRespond st d).running = s.running := rfl
@[simp] theorem State.enterRespond_lines (st : BitVec 2) (d : Arg) : (s.enterRespond st d).lines = s.lines := rfl
@[simp] theorem State.enterRespond_rspValid (st : BitVec 2) (d : Arg) : (s.enterRespond st d).rspValid = true := rfl
@[simp] theorem State.enterRespond_rspStatus (st : BitVec 2) (d : Arg) : (s.enterRespond st d).rspStatus = st := rfl
@[simp] theorem State.enterRespond_rspData (st : BitVec 2) (d : Arg) : (s.enterRespond st d).rspData = d := rfl
@[simp] theorem State.enterRespond_fsm (st : BitVec 2) (d : Arg) : (s.enterRespond st d).fsm = .respond := rfl
@[simp] theorem State.enterRespond_presc (st : BitVec 2) (d : Arg) : (s.enterRespond st d).presc = s.presc := rfl
@[simp] theorem State.enterRespond_unitCnt (st : BitVec 2) (d : Arg) : (s.enterRespond st d).unitCnt = s.unitCnt := rfl
@[simp] theorem State.enterRespond_pulseCnt (st : BitVec 2) (d : Arg) : (s.enterRespond st d).pulseCnt = s.pulseCnt := rfl
@[simp] theorem State.enterRespond_cmdQ (st : BitVec 2) (d : Arg) : (s.enterRespond st d).cmdQ = s.cmdQ := rfl
@[simp] theorem State.enterRespond_rst (st : BitVec 2) (d : Arg) : (s.enterRespond st d).rst = s.rst := rfl
@[simp] theorem State.enterRespond_commands (st : BitVec 2) (d : Arg) : (s.enterRespond st d).commands = s.commands := rfl
@[simp] theorem State.enterRespond_params (st : BitVec 2) (d : Arg) : (s.enterRespond st d).params = s.params := rfl
@[simp] theorem State.enterRespond_padDraws (st : BitVec 2) (d : Arg) : (s.enterRespond st d).padDraws = s.padDraws := rfl
@[simp] theorem State.enterRespond_trace (st : BitVec 2) (d : Arg) : (s.enterRespond st d).trace = s.trace := rfl

@[simp] theorem State.finishRespond_stepMode : (s.finishRespond).stepMode = s.stepMode := rfl
@[simp] theorem State.finishRespond_stepPeriod : (s.finishRespond).stepPeriod = s.stepPeriod := rfl
@[simp] theorem State.finishRespond_running : (s.finishRespond).running = s.running := rfl
@[simp] theorem State.finishRespond_lines : (s.finishRespond).lines = s.lines := rfl
@[simp] theorem State.finishRespond_rspValid : (s.finishRespond).rspValid = false := rfl
@[simp] theorem State.finishRespond_rspStatus : (s.finishRespond).rspStatus = s.rspStatus := rfl
@[simp] theorem State.finishRespond_rspData : (s.finishRespond).rspData = s.rspData := rfl
@[simp] theorem State.finishRespond_fsm : (s.finishRespond).fsm = .idle := rfl
@[simp] theorem State.finishRespond_presc : (s.finishRespond).presc = s.presc := rfl
@[simp] theorem State.finishRespond_unitCnt : (s.finishRespond).unitCnt = s.unitCnt := rfl
@[simp] theorem State.finishRespond_pulseCnt : (s.finishRespond).pulseCnt = s.pulseCnt := rfl
@[simp] theorem State.finishRespond_cmdQ : (s.finishRespond).cmdQ = s.cmdQ := rfl
@[simp] theorem State.finishRespond_rst : (s.finishRespond).rst = s.rst := rfl
@[simp] theorem State.finishRespond_commands : (s.finishRespond).commands = s.commands := rfl
@[simp] theorem State.finishRespond_params : (s.finishRespond).params = s.params := rfl
@[simp] theorem State.finishRespond_padDraws : (s.finishRespond).padDraws = s.padDraws := rfl
@[simp] theorem State.finishRespond_trace : (s.finishRespond).trace = s.trace ++ [.event (.resp s.rspStatus s.rspData)] := rfl

@[simp] theorem State.respond_stepMode (st : BitVec 2) (d : Arg) : (s.respond st d).stepMode = s.stepMode := rfl
@[simp] theorem State.respond_stepPeriod (st : BitVec 2) (d : Arg) : (s.respond st d).stepPeriod = s.stepPeriod := rfl
@[simp] theorem State.respond_running (st : BitVec 2) (d : Arg) : (s.respond st d).running = s.running := rfl
@[simp] theorem State.respond_lines (st : BitVec 2) (d : Arg) : (s.respond st d).lines = s.lines := rfl
@[simp] theorem State.respond_rspValid (st : BitVec 2) (d : Arg) : (s.respond st d).rspValid = false := rfl
@[simp] theorem State.respond_rspStatus (st : BitVec 2) (d : Arg) : (s.respond st d).rspStatus = st := rfl
@[simp] theorem State.respond_rspData (st : BitVec 2) (d : Arg) : (s.respond st d).rspData = d := rfl
@[simp] theorem State.respond_fsm (st : BitVec 2) (d : Arg) : (s.respond st d).fsm = .idle := rfl
@[simp] theorem State.respond_presc (st : BitVec 2) (d : Arg) : (s.respond st d).presc = s.presc := rfl
@[simp] theorem State.respond_unitCnt (st : BitVec 2) (d : Arg) : (s.respond st d).unitCnt = s.unitCnt := rfl
@[simp] theorem State.respond_pulseCnt (st : BitVec 2) (d : Arg) : (s.respond st d).pulseCnt = s.pulseCnt := rfl
@[simp] theorem State.respond_cmdQ (st : BitVec 2) (d : Arg) : (s.respond st d).cmdQ = s.cmdQ := rfl
@[simp] theorem State.respond_rst (st : BitVec 2) (d : Arg) : (s.respond st d).rst = s.rst := rfl
@[simp] theorem State.respond_commands (st : BitVec 2) (d : Arg) : (s.respond st d).commands = s.commands := rfl
@[simp] theorem State.respond_params (st : BitVec 2) (d : Arg) : (s.respond st d).params = s.params := rfl
@[simp] theorem State.respond_padDraws (st : BitVec 2) (d : Arg) : (s.respond st d).padDraws = s.padDraws := rfl
@[simp] theorem State.respond_trace (st : BitVec 2) (d : Arg) : (s.respond st d).trace = s.trace ++ [.event (.resp st d)] := rfl

@[simp] theorem State.accept_stepMode (w : CmdWord) : (s.accept w).stepMode = s.stepMode := rfl
@[simp] theorem State.accept_stepPeriod (w : CmdWord) : (s.accept w).stepPeriod = s.stepPeriod := rfl
@[simp] theorem State.accept_running (w : CmdWord) : (s.accept w).running = s.running := rfl
@[simp] theorem State.accept_lines (w : CmdWord) : (s.accept w).lines = s.lines := rfl
@[simp] theorem State.accept_rspValid (w : CmdWord) : (s.accept w).rspValid = s.rspValid := rfl
@[simp] theorem State.accept_rspStatus (w : CmdWord) : (s.accept w).rspStatus = s.rspStatus := rfl
@[simp] theorem State.accept_rspData (w : CmdWord) : (s.accept w).rspData = s.rspData := rfl
@[simp] theorem State.accept_fsm (w : CmdWord) : (s.accept w).fsm = s.fsm := rfl
@[simp] theorem State.accept_presc (w : CmdWord) : (s.accept w).presc = s.presc := rfl
@[simp] theorem State.accept_unitCnt (w : CmdWord) : (s.accept w).unitCnt = s.unitCnt := rfl
@[simp] theorem State.accept_pulseCnt (w : CmdWord) : (s.accept w).pulseCnt = s.pulseCnt := rfl
@[simp] theorem State.accept_cmdQ (w : CmdWord) : (s.accept w).cmdQ = w := rfl
@[simp] theorem State.accept_rst (w : CmdWord) : (s.accept w).rst = s.rst := rfl
@[simp] theorem State.accept_commands (w : CmdWord) : (s.accept w).commands = s.commands.tail := rfl
@[simp] theorem State.accept_params (w : CmdWord) : (s.accept w).params = s.params := rfl
@[simp] theorem State.accept_padDraws (w : CmdWord) : (s.accept w).padDraws = s.padDraws := rfl
@[simp] theorem State.accept_trace (w : CmdWord) : (s.accept w).trace = s.trace := rfl

@[simp] theorem State.storeMode_stepMode (m : Mode) : (s.storeMode m).stepMode = m := rfl
@[simp] theorem State.storeMode_stepPeriod (m : Mode) : (s.storeMode m).stepPeriod = s.stepPeriod := rfl
@[simp] theorem State.storeMode_running (m : Mode) : (s.storeMode m).running = s.running := rfl
@[simp] theorem State.storeMode_lines (m : Mode) : (s.storeMode m).lines = s.lines := rfl
@[simp] theorem State.storeMode_rspValid (m : Mode) : (s.storeMode m).rspValid = s.rspValid := rfl
@[simp] theorem State.storeMode_rspStatus (m : Mode) : (s.storeMode m).rspStatus = s.rspStatus := rfl
@[simp] theorem State.storeMode_rspData (m : Mode) : (s.storeMode m).rspData = s.rspData := rfl
@[simp] theorem State.storeMode_fsm (m : Mode) : (s.storeMode m).fsm = s.fsm := rfl
@[simp] theorem State.storeMode_presc (m : Mode) : (s.storeMode m).presc = s.presc := rfl
@[simp] theorem State.storeMode_unitCnt (m : Mode) : (s.storeMode m).unitCnt = s.unitCnt := rfl
@[simp] theorem State.storeMode_pulseCnt (m : Mode) : (s.storeMode m).pulseCnt = s.pulseCnt := rfl
@[simp] theorem State.storeMode_cmdQ (m : Mode) : (s.storeMode m).cmdQ = s.cmdQ := rfl
@[simp] theorem State.storeMode_rst (m : Mode) : (s.storeMode m).rst = s.rst := rfl
@[simp] theorem State.storeMode_commands (m : Mode) : (s.storeMode m).commands = s.commands := rfl
@[simp] theorem State.storeMode_params (m : Mode) : (s.storeMode m).params = s.params := rfl
@[simp] theorem State.storeMode_padDraws (m : Mode) : (s.storeMode m).padDraws = s.padDraws := rfl
@[simp] theorem State.storeMode_trace (m : Mode) : (s.storeMode m).trace = s.trace := rfl

@[simp] theorem State.loadDefaultPeriod_stepMode : (s.loadDefaultPeriod).stepMode = s.stepMode := rfl
@[simp] theorem State.loadDefaultPeriod_stepPeriod : (s.loadDefaultPeriod).stepPeriod = s.params.defaultStepPeriod := rfl
@[simp] theorem State.loadDefaultPeriod_running : (s.loadDefaultPeriod).running = s.running := rfl
@[simp] theorem State.loadDefaultPeriod_lines : (s.loadDefaultPeriod).lines = s.lines := rfl
@[simp] theorem State.loadDefaultPeriod_rspValid : (s.loadDefaultPeriod).rspValid = s.rspValid := rfl
@[simp] theorem State.loadDefaultPeriod_rspStatus : (s.loadDefaultPeriod).rspStatus = s.rspStatus := rfl
@[simp] theorem State.loadDefaultPeriod_rspData : (s.loadDefaultPeriod).rspData = s.rspData := rfl
@[simp] theorem State.loadDefaultPeriod_fsm : (s.loadDefaultPeriod).fsm = s.fsm := rfl
@[simp] theorem State.loadDefaultPeriod_presc : (s.loadDefaultPeriod).presc = s.presc := rfl
@[simp] theorem State.loadDefaultPeriod_unitCnt : (s.loadDefaultPeriod).unitCnt = s.unitCnt := rfl
@[simp] theorem State.loadDefaultPeriod_pulseCnt : (s.loadDefaultPeriod).pulseCnt = s.pulseCnt := rfl
@[simp] theorem State.loadDefaultPeriod_cmdQ : (s.loadDefaultPeriod).cmdQ = s.cmdQ := rfl
@[simp] theorem State.loadDefaultPeriod_rst : (s.loadDefaultPeriod).rst = s.rst := rfl
@[simp] theorem State.loadDefaultPeriod_commands : (s.loadDefaultPeriod).commands = s.commands := rfl
@[simp] theorem State.loadDefaultPeriod_params : (s.loadDefaultPeriod).params = s.params := rfl
@[simp] theorem State.loadDefaultPeriod_padDraws : (s.loadDefaultPeriod).padDraws = s.padDraws := rfl
@[simp] theorem State.loadDefaultPeriod_trace : (s.loadDefaultPeriod).trace = s.trace := rfl

@[simp] theorem State.storePeriod_stepMode (p : Arg) : (s.storePeriod p).stepMode = s.stepMode := rfl
@[simp] theorem State.storePeriod_stepPeriod (p : Arg) : (s.storePeriod p).stepPeriod = halfPeriod p := rfl
@[simp] theorem State.storePeriod_running (p : Arg) : (s.storePeriod p).running = s.running := rfl
@[simp] theorem State.storePeriod_lines (p : Arg) : (s.storePeriod p).lines = s.lines := rfl
@[simp] theorem State.storePeriod_rspValid (p : Arg) : (s.storePeriod p).rspValid = s.rspValid := rfl
@[simp] theorem State.storePeriod_rspStatus (p : Arg) : (s.storePeriod p).rspStatus = s.rspStatus := rfl
@[simp] theorem State.storePeriod_rspData (p : Arg) : (s.storePeriod p).rspData = s.rspData := rfl
@[simp] theorem State.storePeriod_fsm (p : Arg) : (s.storePeriod p).fsm = s.fsm := rfl
@[simp] theorem State.storePeriod_presc (p : Arg) : (s.storePeriod p).presc = s.presc := rfl
@[simp] theorem State.storePeriod_unitCnt (p : Arg) : (s.storePeriod p).unitCnt = s.unitCnt := rfl
@[simp] theorem State.storePeriod_pulseCnt (p : Arg) : (s.storePeriod p).pulseCnt = s.pulseCnt := rfl
@[simp] theorem State.storePeriod_cmdQ (p : Arg) : (s.storePeriod p).cmdQ = s.cmdQ := rfl
@[simp] theorem State.storePeriod_rst (p : Arg) : (s.storePeriod p).rst = s.rst := rfl
@[simp] theorem State.storePeriod_commands (p : Arg) : (s.storePeriod p).commands = s.commands := rfl
@[simp] theorem State.storePeriod_params (p : Arg) : (s.storePeriod p).params = s.params := rfl
@[simp] theorem State.storePeriod_padDraws (p : Arg) : (s.storePeriod p).padDraws = s.padDraws := rfl
@[simp] theorem State.storePeriod_trace (p : Arg) : (s.storePeriod p).trace = s.trace := rfl

@[simp] theorem State.loadPulses_stepMode (n : PulseCount) : (s.loadPulses n).stepMode = s.stepMode := rfl
@[simp] theorem State.loadPulses_stepPeriod (n : PulseCount) : (s.loadPulses n).stepPeriod = s.stepPeriod := rfl
@[simp] theorem State.loadPulses_running (n : PulseCount) : (s.loadPulses n).running = s.running := rfl
@[simp] theorem State.loadPulses_lines (n : PulseCount) : (s.loadPulses n).lines = s.lines := rfl
@[simp] theorem State.loadPulses_rspValid (n : PulseCount) : (s.loadPulses n).rspValid = s.rspValid := rfl
@[simp] theorem State.loadPulses_rspStatus (n : PulseCount) : (s.loadPulses n).rspStatus = s.rspStatus := rfl
@[simp] theorem State.loadPulses_rspData (n : PulseCount) : (s.loadPulses n).rspData = s.rspData := rfl
@[simp] theorem State.loadPulses_fsm (n : PulseCount) : (s.loadPulses n).fsm = s.fsm := rfl
@[simp] theorem State.loadPulses_presc (n : PulseCount) : (s.loadPulses n).presc = s.presc := rfl
@[simp] theorem State.loadPulses_unitCnt (n : PulseCount) : (s.loadPulses n).unitCnt = s.unitCnt := rfl
@[simp] theorem State.loadPulses_pulseCnt (n : PulseCount) : (s.loadPulses n).pulseCnt = n := rfl
@[simp] theorem State.loadPulses_cmdQ (n : PulseCount) : (s.loadPulses n).cmdQ = s.cmdQ := rfl
@[simp] theorem State.loadPulses_rst (n : PulseCount) : (s.loadPulses n).rst = s.rst := rfl
@[simp] theorem State.loadPulses_commands (n : PulseCount) : (s.loadPulses n).commands = s.commands := rfl
@[simp] theorem State.loadPulses_params (n : PulseCount) : (s.loadPulses n).params = s.params := rfl
@[simp] theorem State.loadPulses_padDraws (n : PulseCount) : (s.loadPulses n).padDraws = s.padDraws := rfl
@[simp] theorem State.loadPulses_trace (n : PulseCount) : (s.loadPulses n).trace = s.trace := rfl

@[simp] theorem State.countPulse_stepMode : (s.countPulse).stepMode = s.stepMode := rfl
@[simp] theorem State.countPulse_stepPeriod : (s.countPulse).stepPeriod = s.stepPeriod := rfl
@[simp] theorem State.countPulse_running : (s.countPulse).running = s.running := rfl
@[simp] theorem State.countPulse_lines : (s.countPulse).lines = s.lines := rfl
@[simp] theorem State.countPulse_rspValid : (s.countPulse).rspValid = s.rspValid := rfl
@[simp] theorem State.countPulse_rspStatus : (s.countPulse).rspStatus = s.rspStatus := rfl
@[simp] theorem State.countPulse_rspData : (s.countPulse).rspData = s.rspData := rfl
@[simp] theorem State.countPulse_fsm : (s.countPulse).fsm = s.fsm := rfl
@[simp] theorem State.countPulse_presc : (s.countPulse).presc = s.presc := rfl
@[simp] theorem State.countPulse_unitCnt : (s.countPulse).unitCnt = s.unitCnt := rfl
@[simp] theorem State.countPulse_pulseCnt : (s.countPulse).pulseCnt = s.pulseCnt - 1 := rfl
@[simp] theorem State.countPulse_cmdQ : (s.countPulse).cmdQ = s.cmdQ := rfl
@[simp] theorem State.countPulse_rst : (s.countPulse).rst = s.rst := rfl
@[simp] theorem State.countPulse_commands : (s.countPulse).commands = s.commands := rfl
@[simp] theorem State.countPulse_params : (s.countPulse).params = s.params := rfl
@[simp] theorem State.countPulse_padDraws : (s.countPulse).padDraws = s.padDraws := rfl
@[simp] theorem State.countPulse_trace : (s.countPulse).trace = s.trace := rfl

@[simp] theorem State.goto_stepMode (f : Fsm) : (s.goto f).stepMode = s.stepMode := rfl
@[simp] theorem State.goto_stepPeriod (f : Fsm) : (s.goto f).stepPeriod = s.stepPeriod := rfl
@[simp] theorem State.goto_running (f : Fsm) : (s.goto f).running = s.running := rfl
@[simp] theorem State.goto_lines (f : Fsm) : (s.goto f).lines = s.lines := rfl
@[simp] theorem State.goto_rspValid (f : Fsm) : (s.goto f).rspValid = s.rspValid := rfl
@[simp] theorem State.goto_rspStatus (f : Fsm) : (s.goto f).rspStatus = s.rspStatus := rfl
@[simp] theorem State.goto_rspData (f : Fsm) : (s.goto f).rspData = s.rspData := rfl
@[simp] theorem State.goto_fsm (f : Fsm) : (s.goto f).fsm = f := rfl
@[simp] theorem State.goto_presc (f : Fsm) : (s.goto f).presc = s.presc := rfl
@[simp] theorem State.goto_unitCnt (f : Fsm) : (s.goto f).unitCnt = s.unitCnt := rfl
@[simp] theorem State.goto_pulseCnt (f : Fsm) : (s.goto f).pulseCnt = s.pulseCnt := rfl
@[simp] theorem State.goto_cmdQ (f : Fsm) : (s.goto f).cmdQ = s.cmdQ := rfl
@[simp] theorem State.goto_rst (f : Fsm) : (s.goto f).rst = s.rst := rfl
@[simp] theorem State.goto_commands (f : Fsm) : (s.goto f).commands = s.commands := rfl
@[simp] theorem State.goto_params (f : Fsm) : (s.goto f).params = s.params := rfl
@[simp] theorem State.goto_padDraws (f : Fsm) : (s.goto f).padDraws = s.padDraws := rfl
@[simp] theorem State.goto_trace (f : Fsm) : (s.goto f).trace = s.trace := rfl

@[simp] theorem State.withRst_stepMode (b : Level) : (s.withRst b).stepMode = s.stepMode := rfl
@[simp] theorem State.withRst_stepPeriod (b : Level) : (s.withRst b).stepPeriod = s.stepPeriod := rfl
@[simp] theorem State.withRst_running (b : Level) : (s.withRst b).running = s.running := rfl
@[simp] theorem State.withRst_lines (b : Level) : (s.withRst b).lines = s.lines := rfl
@[simp] theorem State.withRst_rspValid (b : Level) : (s.withRst b).rspValid = s.rspValid := rfl
@[simp] theorem State.withRst_rspStatus (b : Level) : (s.withRst b).rspStatus = s.rspStatus := rfl
@[simp] theorem State.withRst_rspData (b : Level) : (s.withRst b).rspData = s.rspData := rfl
@[simp] theorem State.withRst_fsm (b : Level) : (s.withRst b).fsm = s.fsm := rfl
@[simp] theorem State.withRst_presc (b : Level) : (s.withRst b).presc = s.presc := rfl
@[simp] theorem State.withRst_unitCnt (b : Level) : (s.withRst b).unitCnt = s.unitCnt := rfl
@[simp] theorem State.withRst_pulseCnt (b : Level) : (s.withRst b).pulseCnt = s.pulseCnt := rfl
@[simp] theorem State.withRst_cmdQ (b : Level) : (s.withRst b).cmdQ = s.cmdQ := rfl
@[simp] theorem State.withRst_rst (b : Level) : (s.withRst b).rst = b := rfl
@[simp] theorem State.withRst_commands (b : Level) : (s.withRst b).commands = s.commands := rfl
@[simp] theorem State.withRst_params (b : Level) : (s.withRst b).params = s.params := rfl
@[simp] theorem State.withRst_padDraws (b : Level) : (s.withRst b).padDraws = s.padDraws := rfl
@[simp] theorem State.withRst_trace (b : Level) : (s.withRst b).trace = s.trace := rfl

@[simp] theorem State.withCommands_stepMode (q : List CmdWord) : (s.withCommands q).stepMode = s.stepMode := rfl
@[simp] theorem State.withCommands_stepPeriod (q : List CmdWord) : (s.withCommands q).stepPeriod = s.stepPeriod := rfl
@[simp] theorem State.withCommands_running (q : List CmdWord) : (s.withCommands q).running = s.running := rfl
@[simp] theorem State.withCommands_lines (q : List CmdWord) : (s.withCommands q).lines = s.lines := rfl
@[simp] theorem State.withCommands_rspValid (q : List CmdWord) : (s.withCommands q).rspValid = s.rspValid := rfl
@[simp] theorem State.withCommands_rspStatus (q : List CmdWord) : (s.withCommands q).rspStatus = s.rspStatus := rfl
@[simp] theorem State.withCommands_rspData (q : List CmdWord) : (s.withCommands q).rspData = s.rspData := rfl
@[simp] theorem State.withCommands_fsm (q : List CmdWord) : (s.withCommands q).fsm = s.fsm := rfl
@[simp] theorem State.withCommands_presc (q : List CmdWord) : (s.withCommands q).presc = s.presc := rfl
@[simp] theorem State.withCommands_unitCnt (q : List CmdWord) : (s.withCommands q).unitCnt = s.unitCnt := rfl
@[simp] theorem State.withCommands_pulseCnt (q : List CmdWord) : (s.withCommands q).pulseCnt = s.pulseCnt := rfl
@[simp] theorem State.withCommands_cmdQ (q : List CmdWord) : (s.withCommands q).cmdQ = s.cmdQ := rfl
@[simp] theorem State.withCommands_rst (q : List CmdWord) : (s.withCommands q).rst = s.rst := rfl
@[simp] theorem State.withCommands_commands (q : List CmdWord) : (s.withCommands q).commands = q := rfl
@[simp] theorem State.withCommands_params (q : List CmdWord) : (s.withCommands q).params = s.params := rfl
@[simp] theorem State.withCommands_padDraws (q : List CmdWord) : (s.withCommands q).padDraws = s.padDraws := rfl
@[simp] theorem State.withCommands_trace (q : List CmdWord) : (s.withCommands q).trace = s.trace := rfl

@[simp] theorem State.present_stepMode (w : CmdWord) : (s.present w).stepMode = s.stepMode := rfl
@[simp] theorem State.present_stepPeriod (w : CmdWord) : (s.present w).stepPeriod = s.stepPeriod := rfl
@[simp] theorem State.present_running (w : CmdWord) : (s.present w).running = s.running := rfl
@[simp] theorem State.present_lines (w : CmdWord) : (s.present w).lines = s.lines := rfl
@[simp] theorem State.present_rspValid (w : CmdWord) : (s.present w).rspValid = s.rspValid := rfl
@[simp] theorem State.present_rspStatus (w : CmdWord) : (s.present w).rspStatus = s.rspStatus := rfl
@[simp] theorem State.present_rspData (w : CmdWord) : (s.present w).rspData = s.rspData := rfl
@[simp] theorem State.present_fsm (w : CmdWord) : (s.present w).fsm = s.fsm := rfl
@[simp] theorem State.present_presc (w : CmdWord) : (s.present w).presc = s.presc := rfl
@[simp] theorem State.present_unitCnt (w : CmdWord) : (s.present w).unitCnt = s.unitCnt := rfl
@[simp] theorem State.present_pulseCnt (w : CmdWord) : (s.present w).pulseCnt = s.pulseCnt := rfl
@[simp] theorem State.present_cmdQ (w : CmdWord) : (s.present w).cmdQ = s.cmdQ := rfl
@[simp] theorem State.present_rst (w : CmdWord) : (s.present w).rst = s.rst := rfl
@[simp] theorem State.present_commands (w : CmdWord) : (s.present w).commands = s.commands ++ [w] := rfl
@[simp] theorem State.present_params (w : CmdWord) : (s.present w).params = s.params := rfl
@[simp] theorem State.present_padDraws (w : CmdWord) : (s.present w).padDraws = s.padDraws := rfl
@[simp] theorem State.present_trace (w : CmdWord) : (s.present w).trace = s.trace := rfl

@[simp] theorem State.resetEdge_stepMode : (s.resetEdge).stepMode = 0 := rfl
@[simp] theorem State.resetEdge_stepPeriod : (s.resetEdge).stepPeriod = s.params.defaultStepPeriod := rfl
@[simp] theorem State.resetEdge_running : (s.resetEdge).running = false := rfl
@[simp] theorem State.resetEdge_lines : (s.resetEdge).lines = Lines.reset := rfl
@[simp] theorem State.resetEdge_rspValid : (s.resetEdge).rspValid = false := rfl
@[simp] theorem State.resetEdge_rspStatus : (s.resetEdge).rspStatus = 0 := rfl
@[simp] theorem State.resetEdge_rspData : (s.resetEdge).rspData = 0 := rfl
@[simp] theorem State.resetEdge_fsm : (s.resetEdge).fsm = .idle := rfl
@[simp] theorem State.resetEdge_presc : (s.resetEdge).presc = 0 := rfl
@[simp] theorem State.resetEdge_unitCnt : (s.resetEdge).unitCnt = 0 := rfl
@[simp] theorem State.resetEdge_pulseCnt : (s.resetEdge).pulseCnt = 0 := rfl
@[simp] theorem State.resetEdge_cmdQ : (s.resetEdge).cmdQ = 0 := rfl
@[simp] theorem State.resetEdge_rst : (s.resetEdge).rst = s.rst := rfl
@[simp] theorem State.resetEdge_commands : (s.resetEdge).commands = s.commands := rfl
@[simp] theorem State.resetEdge_params : (s.resetEdge).params = s.params := rfl
@[simp] theorem State.resetEdge_padDraws : (s.resetEdge).padDraws = s.padDraws := rfl
@[simp] theorem State.resetEdge_trace : (s.resetEdge).trace = s.trace := rfl

@[simp] theorem State.afterReadDir_stepMode : s.afterReadDir.stepMode = s.stepMode := by
  unfold State.afterReadDir; split <;> simp [*]
@[simp] theorem State.afterReadDir_stepPeriod : s.afterReadDir.stepPeriod = s.stepPeriod := by
  unfold State.afterReadDir; split <;> simp [*]
@[simp] theorem State.afterReadDir_running : s.afterReadDir.running = s.running := by
  unfold State.afterReadDir; split <;> simp [*]
@[simp] theorem State.afterReadDir_lines : s.afterReadDir.lines = s.lines := by
  unfold State.afterReadDir; split <;> simp [*]
@[simp] theorem State.afterReadDir_rspValid : s.afterReadDir.rspValid = s.rspValid := by
  unfold State.afterReadDir; split <;> simp [*]
@[simp] theorem State.afterReadDir_rspStatus : s.afterReadDir.rspStatus = s.rspStatus := by
  unfold State.afterReadDir; split <;> simp [*]
@[simp] theorem State.afterReadDir_rspData : s.afterReadDir.rspData = s.rspData := by
  unfold State.afterReadDir; split <;> simp [*]
@[simp] theorem State.afterReadDir_fsm : s.afterReadDir.fsm = s.fsm := by
  unfold State.afterReadDir; split <;> simp [*]
@[simp] theorem State.afterReadDir_presc : s.afterReadDir.presc = s.presc := by
  unfold State.afterReadDir; split <;> simp [*]
@[simp] theorem State.afterReadDir_unitCnt : s.afterReadDir.unitCnt = s.unitCnt := by
  unfold State.afterReadDir; split <;> simp [*]
@[simp] theorem State.afterReadDir_pulseCnt : s.afterReadDir.pulseCnt = s.pulseCnt := by
  unfold State.afterReadDir; split <;> simp [*]
@[simp] theorem State.afterReadDir_cmdQ : s.afterReadDir.cmdQ = s.cmdQ := by
  unfold State.afterReadDir; split <;> simp [*]
@[simp] theorem State.afterReadDir_rst : s.afterReadDir.rst = s.rst := by
  unfold State.afterReadDir; split <;> simp [*]
@[simp] theorem State.afterReadDir_commands : s.afterReadDir.commands = s.commands := by
  unfold State.afterReadDir; split <;> simp [*]
@[simp] theorem State.afterReadDir_params : s.afterReadDir.params = s.params := by
  unfold State.afterReadDir; split <;> simp [*]
@[simp] theorem State.afterReadDir_padDraws : s.afterReadDir.padDraws = s.padDraws + if s.params.dirReadback = .pad then 1 else 0 := by
  unfold State.afterReadDir; split <;> simp [*]
@[simp] theorem State.afterReadDir_trace : s.afterReadDir.trace = s.trace := by
  unfold State.afterReadDir; split <;> simp [*]

@[simp] theorem State.driveMode_stepMode (pat : Pattern) : (s.driveMode pat).stepMode = s.stepMode := rfl
@[simp] theorem State.driveMode_stepPeriod (pat : Pattern) : (s.driveMode pat).stepPeriod = s.stepPeriod := rfl
@[simp] theorem State.driveMode_running (pat : Pattern) : (s.driveMode pat).running = s.running := rfl
@[simp] theorem State.driveMode_rspValid (pat : Pattern) : (s.driveMode pat).rspValid = s.rspValid := rfl
@[simp] theorem State.driveMode_rspStatus (pat : Pattern) : (s.driveMode pat).rspStatus = s.rspStatus := rfl
@[simp] theorem State.driveMode_rspData (pat : Pattern) : (s.driveMode pat).rspData = s.rspData := rfl
@[simp] theorem State.driveMode_fsm (pat : Pattern) : (s.driveMode pat).fsm = s.fsm := rfl
@[simp] theorem State.driveMode_presc (pat : Pattern) : (s.driveMode pat).presc = 0 := rfl
@[simp] theorem State.driveMode_unitCnt (pat : Pattern) : (s.driveMode pat).unitCnt = 0 := rfl
@[simp] theorem State.driveMode_pulseCnt (pat : Pattern) : (s.driveMode pat).pulseCnt = s.pulseCnt := rfl
@[simp] theorem State.driveMode_cmdQ (pat : Pattern) : (s.driveMode pat).cmdQ = s.cmdQ := rfl
@[simp] theorem State.driveMode_rst (pat : Pattern) : (s.driveMode pat).rst = s.rst := rfl
@[simp] theorem State.driveMode_commands (pat : Pattern) : (s.driveMode pat).commands = s.commands := rfl
@[simp] theorem State.driveMode_params (pat : Pattern) : (s.driveMode pat).params = s.params := rfl
@[simp] theorem State.driveMode_padDraws (pat : Pattern) : (s.driveMode pat).padDraws = s.padDraws := rfl

@[simp] theorem State.cfg_stepMode (m : Mode) : (s.cfg m).stepMode = m := rfl
@[simp] theorem State.cfg_stepPeriod (m : Mode) : (s.cfg m).stepPeriod = s.stepPeriod := rfl
@[simp] theorem State.cfg_running (m : Mode) : (s.cfg m).running = s.running := rfl
@[simp] theorem State.cfg_rspValid (m : Mode) : (s.cfg m).rspValid = s.rspValid := rfl
@[simp] theorem State.cfg_rspStatus (m : Mode) : (s.cfg m).rspStatus = s.rspStatus := rfl
@[simp] theorem State.cfg_rspData (m : Mode) : (s.cfg m).rspData = s.rspData := rfl
@[simp] theorem State.cfg_fsm (m : Mode) : (s.cfg m).fsm = s.fsm := rfl
@[simp] theorem State.cfg_presc (m : Mode) : (s.cfg m).presc = 0 := rfl
@[simp] theorem State.cfg_unitCnt (m : Mode) : (s.cfg m).unitCnt = 0 := rfl
@[simp] theorem State.cfg_pulseCnt (m : Mode) : (s.cfg m).pulseCnt = s.pulseCnt := rfl
@[simp] theorem State.cfg_cmdQ (m : Mode) : (s.cfg m).cmdQ = s.cmdQ := rfl
@[simp] theorem State.cfg_rst (m : Mode) : (s.cfg m).rst = s.rst := rfl
@[simp] theorem State.cfg_commands (m : Mode) : (s.cfg m).commands = s.commands := rfl
@[simp] theorem State.cfg_params (m : Mode) : (s.cfg m).params = s.params := rfl
@[simp] theorem State.cfg_padDraws (m : Mode) : (s.cfg m).padDraws = s.padDraws := rfl

@[simp] theorem State.preamble_stepMode (d : Level) : (s.preamble d).stepMode = s.stepMode := rfl
@[simp] theorem State.preamble_stepPeriod (d : Level) : (s.preamble d).stepPeriod = s.stepPeriod := rfl
@[simp] theorem State.preamble_running (d : Level) : (s.preamble d).running = true := rfl
@[simp] theorem State.preamble_rspValid (d : Level) : (s.preamble d).rspValid = s.rspValid := rfl
@[simp] theorem State.preamble_rspStatus (d : Level) : (s.preamble d).rspStatus = s.rspStatus := rfl
@[simp] theorem State.preamble_rspData (d : Level) : (s.preamble d).rspData = s.rspData := rfl
@[simp] theorem State.preamble_fsm (d : Level) : (s.preamble d).fsm = s.fsm := rfl
@[simp] theorem State.preamble_presc (d : Level) : (s.preamble d).presc = 0 := rfl
@[simp] theorem State.preamble_unitCnt (d : Level) : (s.preamble d).unitCnt = 0 := rfl
@[simp] theorem State.preamble_pulseCnt (d : Level) : (s.preamble d).pulseCnt = s.pulseCnt := rfl
@[simp] theorem State.preamble_cmdQ (d : Level) : (s.preamble d).cmdQ = s.cmdQ := rfl
@[simp] theorem State.preamble_rst (d : Level) : (s.preamble d).rst = s.rst := rfl
@[simp] theorem State.preamble_commands (d : Level) : (s.preamble d).commands = s.commands := rfl
@[simp] theorem State.preamble_params (d : Level) : (s.preamble d).params = s.params := rfl
@[simp] theorem State.preamble_padDraws (d : Level) : (s.preamble d).padDraws = s.padDraws := rfl

/-- An error is its response and nothing else (R200). -/
@[simp] theorem State.raise_eq (st : BitVec 2) : s.raise st = s.respond st 0 := rfl

end Sys2Proof.Machine
end

