-- ==== Sys2Proof/Laws/Ops.lean ====
section
/-! SUPPORT. What the shared operations do, said once: traces, the mode encoder, the operands, the
mode-configuration sequence and the runs. -/

namespace Sys2Proof.Machine

/-! Traces. -/

theorem traceEvents_append (a b : List TraceItem) : traceEvents (a ++ b) = traceEvents a ++ traceEvents b := by
  induction a with
  | nil => rfl
  | cons x rest ih => simp [traceEvents, ih]

theorem State.events_of_trace_append {s t : State} {items : List TraceItem} (h : t.trace = s.trace ++ items) :
    t.events = s.events ++ traceEvents items := by
  simp [State.events, h, traceEvents_append]

theorem State.events_of_emit {s t : State} {e : Event} (h : t.trace = s.trace ++ [.event e]) :
    t.events = s.events ++ [e] := State.events_of_trace_append h

theorem State.events_of_trace_eq {s t : State} (h : t.trace = s.trace) : t.events = s.events := by
  simp [State.events, h]

section
variable (s : State)

@[simp] theorem State.emit_events (e : Event) : (s.emit e).events = s.events ++ [e] :=
  State.events_of_emit rfl
@[simp] theorem State.setLine_events (l : Line) (b : Level) : (s.setLine l b).events = s.events ++ [.wr l b] :=
  State.events_of_emit rfl
@[simp] theorem State.wait_events (n : Arg) : (s.wait n).events = s.events ++ [.wait n] :=
  State.events_of_emit rfl
@[simp] theorem State.setRunning_events (b : Level) : (s.setRunning b).events = s.events ++ [.run b] :=
  State.events_of_emit rfl
@[simp] theorem State.finishRespond_events :
    s.finishRespond.events = s.events ++ [.resp s.rspStatus s.rspData] := State.events_of_emit rfl
@[simp] theorem State.respond_events (st : BitVec 2) (d : Arg) :
    (s.respond st d).events = s.events ++ [.resp st d] := State.events_of_emit rfl
@[simp] theorem State.enterRespond_events (st : BitVec 2) (d : Arg) : (s.enterRespond st d).events = s.events := rfl
@[simp] theorem State.accept_events (w : CmdWord) : (s.accept w).events = s.events := rfl
@[simp] theorem State.storeMode_events (m : Mode) : (s.storeMode m).events = s.events := rfl
@[simp] theorem State.loadDefaultPeriod_events : s.loadDefaultPeriod.events = s.events := rfl
@[simp] theorem State.storePeriod_events (p : Arg) : (s.storePeriod p).events = s.events := rfl
@[simp] theorem State.loadPulses_events (n : PulseCount) : (s.loadPulses n).events = s.events := rfl
@[simp] theorem State.countPulse_events : s.countPulse.events = s.events := rfl
@[simp] theorem State.goto_events (f : Fsm) : (s.goto f).events = s.events := rfl
@[simp] theorem State.withRst_events (b : Level) : (s.withRst b).events = s.events := rfl
@[simp] theorem State.withCommands_events (q : List CmdWord) : (s.withCommands q).events = s.events := rfl
@[simp] theorem State.resetEdge_events : s.resetEdge.events = s.events := rfl
@[simp] theorem State.afterReadDir_events : s.afterReadDir.events = s.events :=
  State.events_of_trace_eq (State.afterReadDir_trace s)

end

/-! Latches. -/

@[simp] theorem Lines.get_set (x : Lines) (l l' : Line) (b : Level) :
    (x.set l b).get l' = if l' = l then b else x.get l' := by
  cases l <;> cases l' <;> rfl

/-- Writing the same latch twice leaves the second value. -/
@[simp] theorem Lines.set_set (x : Lines) (l : Line) (a b : Level) : (x.set l a).set l b = x.set l b := by
  cases l <;> rfl

/-! Agreement of states. -/

theorem State.Agrees.refl (s : State) : s.Agrees s := ⟨rfl, rfl⟩

theorem State.Agrees.symm {s t : State} (h : s.Agrees t) : t.Agrees s := ⟨h.1.symm, h.2.symm⟩

theorem State.Agrees.trans {s t u : State} (h : s.Agrees t) (k : t.Agrees u) : s.Agrees u :=
  ⟨h.1.trans k.1, h.2.trans k.2⟩

/-! Operands. -/

theorem modeValid_iff (m : Arg) : modeValid m = true ↔ m.toNat ≤ maxMode := by simp [modeValid]

theorem modeValid_eq_false {m : Arg} (h : 8 < m.toNat) : modeValid m = false := by
  rw [← Bool.not_eq_true, modeValid_iff, maxMode]
  omega

theorem modeOf_toNat {m : Arg} (h : modeValid m = true) : (modeOf m).toNat = m.toNat := by
  have hm := (modeValid_iff m).mp h
  simp only [maxMode] at hm
  simp only [modeOf, BitVec.toNat_setWidth]
  omega

theorem halfPeriod_toNat (p : Arg) : (halfPeriod p).toNat = p.toNat / 2 := by simp [halfPeriod]

theorem halfPeriod_lt (p : Arg) : (halfPeriod p).toNat < 2 ^ 31 := by
  have := p.isLt
  rw [halfPeriod_toNat]
  omega

theorem stepTotal_toNat (n : Arg) : (stepTotal n).toNat = n.toNat := by
  have := n.isLt
  simp only [stepTotal, BitVec.toNat_setWidth]
  omega

/-! The mode encoder. -/

theorem lutRead_valid_iff (a : Mode) : (lutRead a).valid = true ↔ a.toNat ≤ maxMode := by
  revert a; decide

/-! The mode-configuration sequence (R103, R104). -/

section
variable (s : State) (pat : Pattern) (m : Mode)

@[simp] theorem State.driveMode_lines : (s.driveMode pat).lines = cfgLines pat := rfl
@[simp] theorem State.driveMode_events : (s.driveMode pat).events = s.events ++ cfgEvents pat := by
  simp [State.driveMode, cfgEvents]
@[simp] theorem State.cfg_lines : (s.cfg m).lines = cfgLines (lutRead m).pattern := rfl
@[simp] theorem State.cfg_events : (s.cfg m).events = s.events ++ cfgEvents (lutRead m).pattern :=
  State.driveMode_events _ _

end

/-! Runs (R131, R132, R134). -/

section
variable (s : State) (n : PulseCount) (d : Level)

@[simp] theorem State.preamble_lines : (s.preamble d).lines = { s.lines with stby := true, dir := d } := rfl

@[simp] theorem State.preamble_events :
    (s.preamble d).events = s.events ++ [.run true, .wr .stby true, .wait tWake, .wr .dir d] := by
  simp [State.preamble]

@[simp] theorem State.pulseTrain_events :
    (s.pulseTrain n).events = s.events ++ trainEvents n.toNat s.stepPeriod := by
  unfold State.pulseTrain
  split
  · next h => simp [h, trainEvents]
  · rw [State.events_of_trace_append rfl]; simp [traceEvents, TraceItem.events]

theorem State.pulseTrain_lines :
    (s.pulseTrain n).lines = if n = 0 then s.lines else s.lines.set .stck false := by
  unfold State.pulseTrain; split <;> rfl

@[simp] theorem State.pulseTrain_pulseCnt : (s.pulseTrain n).pulseCnt = 0 := by
  unfold State.pulseTrain; split <;> rfl

/-- What a pulse train leaves unchanged. -/
theorem State.pulseTrain_frame :
    (s.pulseTrain n).stepMode = s.stepMode ∧ (s.pulseTrain n).stepPeriod = s.stepPeriod ∧
    (s.pulseTrain n).running = s.running ∧ (s.pulseTrain n).rspValid = s.rspValid ∧
    (s.pulseTrain n).rspStatus = s.rspStatus ∧ (s.pulseTrain n).rspData = s.rspData ∧
    (s.pulseTrain n).fsm = s.fsm ∧ (s.pulseTrain n).padDraws = s.padDraws ∧
    SameSurroundings s (s.pulseTrain n) := by
  unfold State.pulseTrain; split <;> exact ⟨rfl, rfl, rfl, rfl, rfl, rfl, rfl, rfl, rfl, rfl, rfl, rfl⟩

/-- After the preamble's wait the wait counters are zero, and the train keeps them so. -/
theorem State.pulseTrain_counters (h : s.presc = 0) (k : s.unitCnt = 0) :
    (s.pulseTrain n).presc = 0 ∧ (s.pulseTrain n).unitCnt = 0 := by
  unfold State.pulseTrain; split
  · exact ⟨h, k⟩
  · exact ⟨rfl, rfl⟩

theorem State.runPulses_events :
    (s.runPulses n d).events = s.events ++ (runEvents n.toNat d s.stepPeriod ++ [.resp statusOk 0]) := by
  simp [State.runPulses, State.postamble, runEvents, State.preamble]

/-- Everything a run of `n` pulses does (R135, R136, R137). -/
theorem State.runPulses_spec :
    (s.runPulses n d).events = s.events ++ (runEvents n.toNat d s.stepPeriod ++ [.resp statusOk 0]) ∧
    (s.runPulses n d).lines =
      { s.lines with stby := true, dir := d, stck := if n.toNat = 0 then s.lines.stck else false } ∧
    (s.runPulses n d).running = false ∧ (s.runPulses n d).pulseCnt = 0 ∧
    (s.runPulses n d).presc = 0 ∧ (s.runPulses n d).unitCnt = 0 ∧
    (s.runPulses n d).stepMode = s.stepMode ∧ (s.runPulses n d).stepPeriod = s.stepPeriod ∧
    Responded statusOk 0 (s.runPulses n d) ∧ (s.runPulses n d).padDraws = s.padDraws ∧
    SameSurroundings s (s.runPulses n d) := by
  have hz : n.toNat = 0 ↔ n = 0 := ⟨fun h => BitVec.eq_of_toNat_eq (by simpa using h), fun h => by simp [h]⟩
  obtain ⟨hm, hp, -, -, -, -, -, hd, hs⟩ := State.pulseTrain_frame (s.preamble d) n
  obtain ⟨hc, hu⟩ := State.pulseTrain_counters (s.preamble d) n rfl rfl
  refine ⟨State.runPulses_events s n d, ?_, rfl, ?_, hc, hu, hm, hp, ⟨rfl, rfl, rfl, rfl⟩, hd, hs⟩
  · have hl := State.pulseTrain_lines (s.preamble d) n
    rw [show (s.runPulses n d).lines = ((s.preamble d).pulseTrain n).lines from rfl, hl]
    by_cases h : n = 0
    · rw [if_pos h, if_pos (hz.mpr h)]; rfl
    · rw [if_neg h, if_neg (fun k => h (hz.mp k))]; rfl
  · exact State.pulseTrain_pulseCnt (s.preamble d) n

end

/-! What a step can do. -/

/-- Every way a step can answer a next state: a reset edge, the word on the port run whole, an idle
cycle, or one clock cycle of the command in execution. -/
theorem step_cases {s t : State} (h : step s = .next t) :
    (s.rst = true ∧ t = s.resetEdge) ∨
    (s.rst = false ∧ s.rspStatus ≠ statusReserved ∧
      ((s.fsm = .idle ∧ s.commands = [] ∧ t = s) ∨
       (∃ w q, s.fsm = .idle ∧ s.commands = w :: q ∧ runWord w s = .next t) ∨
       (s.fsm ≠ .idle ∧ t = s.cycle))) := by
  unfold step stepBody at h
  split at h
  · next hr => exact .inl ⟨hr, by simpa using h.symm⟩
  · next hr =>
    split at h
    · cases h
    · next hs =>
      refine .inr ⟨by simpa using hr, hs, ?_⟩
      unfold runStep at h
      split at h
      · next hf =>
        split at h
        · next hq => exact .inl ⟨hf, hq, by simpa using h.symm⟩
        · next w q hq => exact .inr (.inl ⟨w, q, hf, hq, h⟩)
      all_goals
        next hf => exact .inr (.inr ⟨by simp [hf], by simpa using h.symm⟩)

/-- The word on the port: its command, or the rejection. -/
theorem runWord_cases {w : CmdWord} {s t : State} (h : runWord w s = .next t) :
    (∃ i, decode w = .ok i ∧ exec i (s.accept w) = .next t) ∨
    (∃ r, decode w = .error r ∧ t = (s.accept w).raise statusIllegalCmd) := by
  unfold runWord at h
  split at h
  · next i hi => exact .inl ⟨i, hi, h⟩
  · next r hr => exact .inr ⟨r, hr, by simpa using h.symm⟩

end Sys2Proof.Machine
end

