-- ==== Sys2Proof/Laws/Cycle.lean ====
section
/-! SUPPORT. How clock cycles compose, and how a wait of the reference realisation passes (R240). -/

namespace Sys2Proof.Machine

theorem State.cycles_add (a b : Nat) (s : State) : s.cycles (a + b) = (s.cycles a).cycles b := by
  induction a generalizing s with
  | zero => simp [State.cycles]
  | succ a ih => rw [Nat.succ_add]; exact ih s.cycle

theorem State.cycles_succ (n : Nat) (s : State) : s.cycles (n + 1) = (s.cycles n).cycle :=
  State.cycles_add n 1 s

theorem State.unitCycles_pos (s : State) : 0 < s.unitCycles := Nat.succ_pos _

/-- One cycle with `rst = 0` at a line write. -/
theorem State.cycle_line {s : State} {k : LineStep} (hr : s.rst = false) (hf : s.fsm = .line k) :
    s.cycle = s.lineCycle k := by
  simp [State.cycle, hr, hf]

/-- One cycle with `rst = 0` within a wait. -/
theorem State.cycle_wait {s : State} {k : WaitStep} (hr : s.rst = false) (hf : s.fsm = .wait k) :
    s.cycle = s.waitCycle k := by
  simp [State.cycle, hr, hf]

theorem State.cycle_clearRunning {s : State} (hr : s.rst = false) (hf : s.fsm = .clearRunning) :
    s.cycle = (s.setRunning false).enterRespond statusOk 0 := by
  simp [State.cycle, hr, hf]

theorem State.cycle_respond {s : State} (hr : s.rst = false) (hf : s.fsm = .respond) :
    s.cycle = s.finishRespond := by
  simp [State.cycle, hr, hf]

theorem State.cycle_accept {s : State} {w : CmdWord} {q : List CmdWord} (hr : s.rst = false)
    (hf : s.fsm = .idle) (hq : s.commands = w :: q) : s.cycle = s.acceptEdge w := by
  simp [State.cycle, hr, hf, hq]

/-- The end of a wait does not depend on the counters or on `fsm`: it overwrites them. -/
theorem State.endWait_counters (s : State) (k : WaitStep) (p : Nat) (u : Arg) (f : Fsm) :
    State.endWait k { s with fsm := f, presc := p, unitCnt := u } = s.endWait k := by
  cases k
  case latch =>
    change (if s.isStop = true then _ else _) = (if s.isStop = true then _ else _)
    split <;> rfl
  case low =>
    change (if s.pulsesDone = true then _ else _) = (if s.pulsesDone = true then _ else _)
    split <;> rfl
  all_goals rfl

/-- Within a wait of `n` units, `j` cycles on, `presc` has counted `j % U` and `unit_cnt` is down by `j / U`. -/
theorem State.wait_within {s : State} {k : WaitStep} (hr : s.rst = false) (hf : s.fsm = .wait k)
    (hp : s.presc = 0) (j : Nat) (hj : j < s.unitCnt.toNat * s.unitCycles) :
    s.cycles j =
      { s with presc := j % s.unitCycles, unitCnt := BitVec.ofNat 32 (s.unitCnt.toNat - j / s.unitCycles) } := by
  have hU := s.unitCycles_pos
  induction j with
  | zero =>
    rw [State.cycles, Nat.zero_mod, Nat.zero_div, Nat.sub_zero, BitVec.ofNat_toNat, BitVec.setWidth_eq]
    cases s
    simp_all
  | succ j ih =>
    rw [State.cycles_succ, ih (by omega), State.cycle_wait (k := k) (by simpa using hr) (by simpa using hf)]
    have hd : j / s.unitCycles < s.unitCnt.toNat := by
      rw [Nat.div_lt_iff_lt_mul hU]; omega
    have hm := Nat.mod_lt j hU
    have hlt := s.unitCnt.isLt
    have hdm := Nat.div_add_mod j s.unitCycles
    generalize hq : j / s.unitCycles = q at *
    generalize hmm : j % s.unitCycles = m at *
    have hu : State.unitCycles { s with presc := m, unitCnt := BitVec.ofNat 32 (s.unitCnt.toNat - q) } = s.unitCycles := rfl
    unfold State.waitCycle
    rw [hu]
    by_cases hc : m + 1 < s.unitCycles
    · have h1 : (j + 1) / s.unitCycles = q := by
        rw [← hdm, Nat.add_assoc, Nat.mul_add_div hU, Nat.div_eq_of_lt hc, Nat.add_zero]
      have h2 : (j + 1) % s.unitCycles = m + 1 := by
        rw [← hdm, Nat.add_assoc, Nat.mul_add_mod, Nat.mod_eq_of_lt hc]
      simp [hc, h1, h2]
    · have he : m + 1 = s.unitCycles := by omega
      have hj1 : j + 1 = s.unitCycles * (q + 1) := by rw [← hdm, Nat.mul_add, Nat.mul_one]; omega
      have h1 : (j + 1) / s.unitCycles = q + 1 := by rw [hj1, Nat.mul_div_cancel_left _ hU]
      have h2 : (j + 1) % s.unitCycles = 0 := by rw [hj1, Nat.mul_mod_right]
      have hlast : q + 1 < s.unitCnt.toNat := by
        have : s.unitCycles * (q + 1) < s.unitCycles * s.unitCnt.toNat := by
          rw [← hj1, Nat.mul_comm s.unitCycles]; exact hj
        exact Nat.lt_of_mul_lt_mul_left this
      have hn : ¬ (BitVec.ofNat 32 (s.unitCnt.toNat - q)).toNat ≤ 1 := by
        simp only [BitVec.toNat_ofNat]
        rw [Nat.mod_eq_of_lt (by omega)]
        omega
      simp only [hc, hn, if_false, h1, h2]
      congr 1
      apply BitVec.eq_of_toNat_eq
      have one : (1 : Arg).toNat = 1 := rfl
      simp only [BitVec.toNat_sub, BitVec.toNat_ofNat]
      rw [one, Nat.mod_eq_of_lt (show s.unitCnt.toNat - q < 2 ^ 32 by omega),
        Nat.mod_eq_of_lt (show s.unitCnt.toNat - (q + 1) < 2 ^ 32 by omega)]
      omega

/-- A wait of `n` units takes `n * U` cycles and ends as `endWait` says (R240). -/
theorem State.wait_cycles {s : State} {k : WaitStep} (hr : s.rst = false) (hf : s.fsm = .wait k)
    (hp : s.presc = 0) (hn : s.unitCnt ≠ 0) :
    s.cycles (s.unitCnt.toNat * s.unitCycles) = s.endWait k := by
  have hU := s.unitCycles_pos
  have hpos : 0 < s.unitCnt.toNat := by
    rcases Nat.eq_zero_or_pos s.unitCnt.toNat with h | h
    · exact absurd (BitVec.eq_of_toNat_eq (by simpa using h)) hn
    · exact h
  have hlt := s.unitCnt.isLt
  obtain ⟨j, hj⟩ : ∃ j, s.unitCnt.toNat * s.unitCycles = j + 1 :=
    ⟨_, (Nat.sub_add_cancel (Nat.mul_pos hpos hU)).symm⟩
  rw [hj, State.cycles_succ, State.wait_within hr hf hp j (by omega),
    State.cycle_wait (k := k) (by simpa using hr) (by simpa using hf)]
  have hd : j / s.unitCycles = s.unitCnt.toNat - 1 := by
    rw [Nat.div_eq_iff hU]
    have : (s.unitCnt.toNat - 1) * s.unitCycles + s.unitCycles = s.unitCnt.toNat * s.unitCycles := by
      rw [← Nat.succ_mul]; congr 1; omega
    omega
  have hm : j % s.unitCycles = s.unitCycles - 1 := by
    have h1 := Nat.div_add_mod j s.unitCycles
    rw [hd] at h1
    have : s.unitCycles * (s.unitCnt.toNat - 1) + s.unitCycles = s.unitCnt.toNat * s.unitCycles := by
      rw [← Nat.mul_succ, Nat.mul_comm]; congr 1; omega
    omega
  rw [hd, hm]
  have hu : State.unitCycles
      { s with presc := s.unitCycles - 1
               unitCnt := BitVec.ofNat 32 (s.unitCnt.toNat - (s.unitCnt.toNat - 1)) } = s.unitCycles := rfl
  unfold State.waitCycle
  rw [hu]
  have h1 : ¬ s.unitCycles - 1 + 1 < s.unitCycles := by omega
  have h2 : (BitVec.ofNat 32 (s.unitCnt.toNat - (s.unitCnt.toNat - 1))).toNat ≤ 1 := by
    rw [show s.unitCnt.toNat - (s.unitCnt.toNat - 1) = 1 by omega]; decide
  simp only [h1, h2, if_false, if_true]
  exact State.endWait_counters s k _ _ s.fsm

/-- From the edge that starts a wait, zero units included, to the edge that ends it (R240). -/
theorem State.startWait_cycles (s : State) (k : WaitStep) (hr : s.rst = false) :
    (s.startWait k).cycles ((s.waitUnits k).toNat * s.unitCycles) = s.endWait k := by
  unfold State.startWait
  split
  · next h => simp [h, State.cycles]
  · next h =>
    refine Eq.trans (State.wait_cycles (s := { s with fsm := .wait k, presc := 0, unitCnt := s.waitUnits k })
      hr rfl rfl h) ?_
    exact State.endWait_counters s k _ _ _

/-! The operations write no `fsm`, so it can be moved outwards past them. -/

section
variable (s : State) (f g : Fsm) (l : Line) (b : Level) (n : Arg)

@[simp] theorem State.goto_goto : (s.goto g).goto f = s.goto f := rfl
@[simp] theorem State.goto_enterRespond (st : BitVec 2) : (s.goto g).enterRespond st n = s.enterRespond st n := rfl
@[simp] theorem State.goto_setLine : (s.goto f).setLine l b = (s.setLine l b).goto f := rfl
@[simp] theorem State.goto_wait : (s.goto f).wait n = (s.wait n).goto f := rfl
@[simp] theorem State.goto_setRunning : (s.goto f).setRunning b = (s.setRunning b).goto f := rfl
@[simp] theorem State.goto_countPulse : (s.goto f).countPulse = s.countPulse.goto f := rfl

@[simp] theorem State.goto_nextPulse : (s.goto f).nextPulse = s.nextPulse := by
  change (if s.pulsesDone = true then _ else _) = (if s.pulsesDone = true then _ else _)
  split <;> rfl

/-! What the sequencer looks at, after each operation that does not change it. -/

@[simp] theorem State.goto_unitCycles : (s.goto f).unitCycles = s.unitCycles := rfl
@[simp] theorem State.setLine_unitCycles : (s.setLine l b).unitCycles = s.unitCycles := rfl
@[simp] theorem State.wait_unitCycles : (s.wait n).unitCycles = s.unitCycles := rfl
@[simp] theorem State.countPulse_unitCycles : s.countPulse.unitCycles = s.unitCycles := rfl
@[simp] theorem State.goto_pattern : (s.goto f).pattern = s.pattern := rfl
@[simp] theorem State.setLine_pattern : (s.setLine l b).pattern = s.pattern := rfl
@[simp] theorem State.wait_pattern : (s.wait n).pattern = s.pattern := rfl
@[simp] theorem State.goto_isStop : (s.goto f).isStop = s.isStop := rfl
@[simp] theorem State.setLine_isStop : (s.setLine l b).isStop = s.isStop := rfl
@[simp] theorem State.wait_isStop : (s.wait n).isStop = s.isStop := rfl
@[simp] theorem State.goto_operandDir : (s.goto f).operandDir = s.operandDir := rfl
@[simp] theorem State.setLine_operandDir : (s.setLine l b).operandDir = s.operandDir := rfl
@[simp] theorem State.wait_operandDir : (s.wait n).operandDir = s.operandDir := rfl
@[simp] theorem State.goto_waitUnits (k : WaitStep) : (s.goto f).waitUnits k = s.waitUnits k := rfl
@[simp] theorem State.setLine_waitUnits (k : WaitStep) : (s.setLine l b).waitUnits k = s.waitUnits k := rfl
@[simp] theorem State.countPulse_waitUnits (k : WaitStep) : s.countPulse.waitUnits k = s.waitUnits k := rfl

end

theorem State.cycles_one_add (n : Nat) (s : State) : s.cycles (1 + n) = s.cycle.cycles n := by
  rw [State.cycles_add]; rfl

theorem State.goto_line_cycle (s : State) (k : LineStep) (hr : s.rst = false) :
    (s.goto (.line k)).cycle = (s.goto (.line k)).lineCycle k := State.cycle_line hr rfl

theorem State.goto_clearRunning_cycle (s : State) (hr : s.rst = false) :
    (s.goto .clearRunning).cycle = (s.setRunning false).enterRespond statusOk 0 :=
  State.cycle_clearRunning hr rfl

/-- The Respond cycle (R82). -/
theorem State.enterRespond_cycles_one (s : State) (st : BitVec 2) (d : Arg) (hr : s.rst = false) :
    (s.enterRespond st d).cycles 1 = s.respond st d :=
  State.cycle_respond (s := s.enterRespond st d) hr rfl

/-- A wait together with what follows its end, in a given number of cycles (R240). -/
theorem State.startWait_cycles_of {s : State} {k : WaitStep} {n : Nat} (hr : s.rst = false)
    (hn : n = (s.waitUnits k).toNat * s.unitCycles) :
    (s.startWait k).cycles n = (s.wait (s.waitUnits k)).afterWait k := by
  rw [hn]; exact State.startWait_cycles s k hr

/-- From the first cycle of the mode-configuration sequence to the edge after its last wait (R103, R240). -/
theorem State.cfg_cycles (s : State) (hr : s.rst = false) :
    (s.goto (.line .cfgStby)).cycles (200 * s.unitCycles + 5) = (s.driveMode s.pattern).afterWait .latch := by
  have e : 200 * s.unitCycles + 5 =
      1 + (100 * s.unitCycles + (1 + (1 + (1 + (1 + 100 * s.unitCycles))))) := by omega
  rw [e, State.cycles_one_add, State.goto_line_cycle _ _ hr, State.cycles_add]
  simp only [State.lineCycle, State.goto_setLine]
  rw [State.startWait_cycles_of (by simpa using hr) (by simp [State.waitUnits, tSettle]), State.cycles_one_add]
  simp only [State.afterWait, State.goto_wait, State.goto_goto]
  rw [State.goto_line_cycle _ _ (by simpa using hr)]
  simp only [State.lineCycle, State.goto_setLine, State.goto_goto]
  rw [State.cycles_one_add, State.goto_line_cycle _ _ (by simpa using hr)]
  simp only [State.lineCycle, State.goto_setLine, State.goto_goto]
  rw [State.cycles_one_add, State.goto_line_cycle _ _ (by simpa using hr)]
  simp only [State.lineCycle, State.goto_setLine, State.goto_goto]
  rw [State.cycles_one_add, State.goto_line_cycle _ _ (by simpa using hr)]
  simp only [State.lineCycle, State.goto_setLine]
  rw [State.startWait_cycles_of (by simpa using hr) (by simp [State.waitUnits, tLatch])]
  simp [State.afterWait, State.driveMode, State.waitUnits]

/-- One pulse, from the top of the loop to the top of the loop (R132, R240). -/
theorem State.pulse_cycles (s : State) (hr : s.rst = false) (hp : s.pulsesDone = false) :
    s.nextPulse.cycles (2 * s.stepPeriod.toNat * s.unitCycles + 2) = s.pulse.nextPulse := by
  have e : 2 * s.stepPeriod.toNat * s.unitCycles + 2 =
      1 + (s.stepPeriod.toNat * s.unitCycles + (1 + s.stepPeriod.toNat * s.unitCycles)) := by ring
  have h0 : s.nextPulse = s.goto (.line .pulseHigh) := by simp [State.nextPulse, hp]
  rw [e, h0, State.cycles_one_add, State.goto_line_cycle _ _ hr, State.cycles_add]
  simp only [State.lineCycle, State.goto_setLine]
  rw [State.startWait_cycles_of (by simpa using hr) (by simp [State.waitUnits]), State.cycles_one_add]
  simp only [State.afterWait, State.goto_wait, State.goto_goto]
  rw [State.goto_line_cycle _ _ (by simpa using hr)]
  simp only [State.lineCycle, State.goto_setLine, State.goto_countPulse]
  rw [State.startWait_cycles_of (by simpa using hr) (by simp [State.waitUnits])]
  simp [State.afterWait, State.pulse, State.waitUnits]

/-- The pulse loop, from `done` or its first cycle to the edge into the postamble (R132, R240). -/
theorem State.pulseLoop_cycles (n : Nat) (s : State) (hr : s.rst = false) (hn : s.pulseCnt.toNat = n) :
    s.nextPulse.cycles (n * (2 * s.stepPeriod.toNat * s.unitCycles + 2)) =
      (s.pulseLoop n).goto .clearRunning := by
  induction n generalizing s with
  | zero =>
    have : s.pulsesDone = true := by
      simp only [State.pulsesDone, beq_iff_eq]; exact BitVec.eq_of_toNat_eq (by simpa using hn)
    simp [State.nextPulse, this, State.cycles, State.pulseLoop]
  | succ n ih =>
    have hd : s.pulsesDone = false := by
      simp only [State.pulsesDone, beq_eq_false_iff_ne]; intro h; rw [h] at hn; simp at hn
    rw [Nat.succ_mul, Nat.add_comm, State.cycles_add, State.pulse_cycles s hr hd]
    have h1 : s.pulse.pulseCnt.toNat = n := by
      change (s.pulseCnt - 1).toNat = n
      rw [BitVec.toNat_sub]; have := s.pulseCnt.isLt; simp; omega
    exact ih s.pulse hr h1

theorem State.pulseLoop_rst (n : Nat) (s : State) : (s.pulseLoop n).rst = s.rst := by
  induction n generalizing s with
  | zero => rfl
  | succ n ih => exact ih s.pulse

/-- A run, from the cycle after its acceptance to the edge that ends its response (R135, R240). -/
theorem State.run_cycles (s : State) (hr : s.rst = false) :
    (s.goto (.line .runStby)).cycles
        (100 * s.unitCycles + 4 + s.pulseCnt.toNat * (2 * s.stepPeriod.toNat * s.unitCycles + 2)) =
      (((((s.setLine .stby true).wait tWake).setLine .dir s.operandDir).pulseLoop
        s.pulseCnt.toNat).setRunning false).respond statusOk 0 := by
  have e : 100 * s.unitCycles + 4 + s.pulseCnt.toNat * (2 * s.stepPeriod.toNat * s.unitCycles + 2) =
      1 + (100 * s.unitCycles +
        (1 + (s.pulseCnt.toNat * (2 * s.stepPeriod.toNat * s.unitCycles + 2) + (1 + 1)))) := by omega
  rw [e, State.cycles_one_add, State.goto_line_cycle _ _ hr, State.cycles_add]
  simp only [State.lineCycle, State.goto_setLine]
  rw [State.startWait_cycles_of (by simpa using hr) (by simp [State.waitUnits, tWake]), State.cycles_one_add]
  simp only [State.afterWait, State.goto_wait, State.goto_goto]
  rw [State.goto_line_cycle _ _ (by simpa using hr)]
  simp only [State.lineCycle, State.goto_setLine, State.goto_nextPulse, State.goto_waitUnits,
    State.setLine_waitUnits, State.goto_operandDir, State.wait_operandDir, State.setLine_operandDir]
  rw [State.cycles_add]
  have y := State.pulseLoop_cycles s.pulseCnt.toNat
    (((s.setLine .stby true).wait tWake).setLine .dir s.operandDir) (by simpa using hr) (by simp)
  refine Eq.trans (congrArg (State.cycles (1 + 1)) y) ?_
  have hr' : (((s.setLine .stby true).wait tWake).setLine .dir s.operandDir).rst = false := by simpa using hr
  rw [State.cycles_one_add, State.goto_clearRunning_cycle _ (by rw [State.pulseLoop_rst]; exact hr')]
  exact State.enterRespond_cycles_one _ _ _
    (by rw [State.setRunning_rst, State.pulseLoop_rst]; exact hr')

end Sys2Proof.Machine
end

