-- ==== Sys2Proof/Laws/Decode.lean ====
section
/-! SUPPORT. Small facts about the command word and the opcode map. -/

namespace Sys2Proof

/-- The fields of an encoded command are the ones it was built from (R70). -/
theorem fieldsOf_encode (i : Instr) :
    fieldsOf (encode i) = { op := i.opcode.bits, d := i.dir, rsv := 0, arg := i.arg } := by
  unfold fieldsOf encode
  congr 1
  · apply BitVec.eq_of_getLsbD_eq
    intro j hj
    simp [hj, show j < 8 by omega, show j < 40 by omega]
  · simp
  · apply BitVec.eq_of_getLsbD_eq
    intro j hj
    simp [hj, show 5 + j < 8 by omega, show 5 + j - 4 = j + 1 by omega,
      BitVec.getLsbD_of_ge i.opcode.bits (5 + j) (by omega)]
  · apply BitVec.eq_of_getLsbD_eq
    intro j hj
    simp [hj, show 8 + j < 40 by omega, show 8 + j - 4 = j + 4 by omega,
      BitVec.getLsbD_of_ge i.opcode.bits (8 + j) (by omega)]

theorem Opcode.ofBits_bits (o : Opcode) : Opcode.ofBits o.bits = some o := by cases o <;> rfl

theorem Opcode.bits_of_ofBits {b : BitVec 4} {o : Opcode} (h : Opcode.ofBits b = some o) : o.bits = b := by
  revert b; cases o <;> decide

/-- The reserved opcodes of R78, and no others. -/
theorem Opcode.ofBits_none_iff (b : BitVec 4) : Opcode.ofBits b = none ↔ b = 0 ∨ 0xB#4 ≤ b := by
  revert b; decide

theorem Instr.build_opcode (i : Instr) : i.opcode.build i.arg i.dir = i := by cases i <;> rfl

theorem Opcode.build_opcode (o : Opcode) (a : Arg) (d : Level) : (o.build a d).opcode = o := by cases o <;> rfl

end Sys2Proof
end

