-- ==== Sys2Proof/Laws/PerInstr.lean ====
section
/-! SUPPORT. Families of facts about every command as syntax, one lemma per constructor. -/

namespace Sys2Proof.Laws

/-- The word of a command has its opcode, its operands, and zeros wherever it has none (R70, R76). -/
def EncodedFields.Statement (i : Instr) : Prop :=
  fieldsOf (encode i) = { op := i.opcode.bits, d := i.dir, rsv := 0, arg := i.arg } ∧
  Opcode.ofBits (fieldsOf (encode i)).op = some i.opcode

theorem EncodedFields.of_all (i : Instr) : EncodedFields.Statement i :=
  ⟨fieldsOf_encode i, by rw [fieldsOf_encode]; exact Opcode.ofBits_bits i.opcode⟩

theorem EncodedFields.init (mode : Arg) : EncodedFields.Statement (.init mode) := EncodedFields.of_all _
theorem EncodedFields.setStepMode (mode : Arg) : EncodedFields.Statement (.setStepMode mode) :=
  EncodedFields.of_all _
theorem EncodedFields.getStepMode : EncodedFields.Statement .getStepMode := EncodedFields.of_all _
theorem EncodedFields.runSteps (count : Arg) (dir : Level) :
    EncodedFields.Statement (.runSteps count dir) := EncodedFields.of_all _
theorem EncodedFields.runRevolutions (revolutions : Arg) (dir : Level) :
    EncodedFields.Statement (.runRevolutions revolutions dir) := EncodedFields.of_all _
theorem EncodedFields.stop : EncodedFields.Statement .stop := EncodedFields.of_all _
theorem EncodedFields.setDirection (dir : Level) : EncodedFields.Statement (.setDirection dir) :=
  EncodedFields.of_all _
theorem EncodedFields.getDirection : EncodedFields.Statement .getDirection := EncodedFields.of_all _
theorem EncodedFields.setStepPeriod (period : Arg) : EncodedFields.Statement (.setStepPeriod period) :=
  EncodedFields.of_all _
theorem EncodedFields.getStepPeriod : EncodedFields.Statement .getStepPeriod := EncodedFields.of_all _

end Sys2Proof.Laws
end

