-- ==== Sys2Proof/Tests/Slice0.lean ====
section
/-! SUPPORT. The model's own tests, their expected values from `spec/` (mostly `95_test_vectors.md`), and
for every obligation with hypotheses a concrete state and operands that meet them. -/

namespace Sys2Proof.Tests

open Sys2Proof Sys2Proof.Machine

/-! Well-formedness: each check refuses a statement that fails it alone (R84). -/

theorem test_wellFormed_accepts : Stmt.wellFormed ⟨.runSteps, [0xFFFFFFFF, 1]⟩ = true := by decide
theorem test_wellFormed_f0_count : Stmt.wellFormed ⟨.stop, [0]⟩ = false := by decide
theorem test_wellFormed_fa_count : Stmt.wellFormed ⟨.init, []⟩ = false := by decide
theorem test_wellFormed_fd_count : Stmt.wellFormed ⟨.setDirection, [0, 1]⟩ = false := by decide
theorem test_wellFormed_fad_count : Stmt.wellFormed ⟨.runSteps, [3]⟩ = false := by decide
theorem test_wellFormed_fa_arg : Stmt.wellFormed ⟨.setStepPeriod, [0x100000000]⟩ = false := by decide
theorem test_wellFormed_fad_arg : Stmt.wellFormed ⟨.runRevolutions, [0x100000000, 0]⟩ = false := by decide
theorem test_wellFormed_fd_dir : Stmt.wellFormed ⟨.setDirection, [2]⟩ = false := by decide
theorem test_wellFormed_fad_dir : Stmt.wellFormed ⟨.runSteps, [3, 2]⟩ = false := by decide

/-! Decoding: the words of R84 and of V1 to V13e, laid out by R70 (`arg` 39:8, `rsv` 7:5, `d` 4, `op` 3:0). -/

/-- `arg = 3`, `rsv = 0`, `d = 0`, `op = 0x1`, bit by bit. -/
theorem test_decode_init :
    decode 0b00000000000000000000000000000011_000_0_0001 = .ok (.init 3) := by decide
theorem test_decode_setStepMode :
    decode 0b00000000000000000000000000000010_000_0_0010 = .ok (.setStepMode 2) := by decide
theorem test_decode_getStepMode :
    decode 0b00000000000000000000000000000000_000_0_0011 = .ok .getStepMode := by decide
theorem test_decode_runSteps :
    decode 0b00000000000000000000000000000010_000_1_0100 = .ok (.runSteps 2 true) := by decide
theorem test_decode_runSteps_widest : decode 0xFFFFFFFF14 = .ok (.runSteps 0xFFFFFFFF true) := by decide
theorem test_decode_runRevolutions :
    decode 0b00000000000000000000000000000001_000_0_0101 = .ok (.runRevolutions 1 false) := by decide
theorem test_decode_runRevolutions_widest :
    decode 0xFFFFFFFF15 = .ok (.runRevolutions 0xFFFFFFFF true) := by decide
theorem test_decode_stop :
    decode 0b00000000000000000000000000000000_000_0_0110 = .ok .stop := by decide
theorem test_decode_setDirection :
    decode 0b00000000000000000000000000000000_000_1_0111 = .ok (.setDirection true) := by decide
theorem test_decode_getDirection :
    decode 0b00000000000000000000000000000000_000_0_1000 = .ok .getDirection := by decide
theorem test_decode_setStepPeriod :
    decode 0b00000000000000000000001111101001_000_0_1001 = .ok (.setStepPeriod 1001) := by decide
theorem test_decode_getStepPeriod :
    decode 0b00000000000000000000000000000000_000_0_1010 = .ok .getStepPeriod := by decide

/-- V1 to V3. -/
theorem test_reject_reserved_opcode :
    decode 0x0000000000 = .error .reservedOpcode ∧ decode 0x000000000B = .error .reservedOpcode ∧
    decode 0x000000000F = .error .reservedOpcode := by decide
/-- V4 to V7. -/
theorem test_reject_unused_operand :
    decode 0x0000000106 = .error .argumentNotZero ∧ decode 0x0000000013 = .error .directionNotZero ∧
    decode 0x0000000011 = .error .directionNotZero ∧ decode 0x0000000107 = .error .argumentNotZero := by decide
/-- V8 to V10. -/
theorem test_reject_reserved_bits :
    decode 0x0000000024 = .error .reservedBits ∧ decode 0x00000000E4 = .error .reservedBits ∧
    decode 0x0000000922 = .error .reservedBits := by decide

theorem test_encode_words :
    encode (.init 4) = 0x0000000401 ∧ encode (.runSteps 3 false) = 0x0000000304 ∧
    encode (.setStepPeriod 10) = 0x0000000A09 ∧ encode (.setDirection true) = 0x0000000017 := by decide

/-- The opcode table numbers the word's bits as R70 does; bits above the word belong to no command (R80). -/
theorem test_decodeTableWord :
    decodeTableWord 40 0x0000000214 = some (.runSteps 2 true) ∧ decodeTableWord 8 0x03 = some .getStepMode ∧
    decodeTableWord 40 0x0000000000 = none ∧ decodeTableWord 48 0x010000000003 = none := by decide

/-! The assembly language (R84, R85, section 2.1). -/

theorem test_assemble_lines :
    assembleLine "init 3                ; 0x0000000301".toList = some 0x0000000301 ∧
    assembleLine "runSteps 2, 1         ; 0x0000000214".toList = some 0x0000000214 ∧
    assembleLine "setStepPeriod 0x3E9".toList = some 0x000003E909 ∧
    assembleLine "stop".toList = some 0x0000000006 := by decide
theorem test_assemble_errors :
    assembleLine "Stop".toList = none ∧ assembleLine "setStepPeriod 4294967296".toList = none ∧
    assembleLine "setDirection 2".toList = none ∧ assembleLine "stop 1".toList = none := by decide
/-- The comment line of P2 holds no command. -/
theorem test_assemble_program :
    assembleProgram ["getStepMode           ; 0x0000000003".toList,
      "                      ; raw word".toList, "setStepMode 8".toList] =
      some [0x0000000003, 0x0000000802] := by decide

/-! One command at a time. -/

/-- After reset, with `U = u`, `DEFAULT_STEP_PERIOD = 77` and the read-back given. -/
def after (u : Nat) (r : DirReadback) : State := State.resetWith ⟨u - 1, 77, r⟩

/-- With the lines, mode and period of a test vector. -/
def vector (x : Lines) (m : Mode) (p : Arg) : State :=
  { after 1 .loopback with lines := x, stepMode := m, stepPeriod := p }

/-- The state a command leaves, the same state if it gave none. -/
def run (i : Instr) (s : State) : State :=
  match exec i s with
  | .next t => t
  | .fault _ => s
  | .refused _ => s

/-- The state a step leaves, the same state if it gave none. -/
def stepped (s : State) : State :=
  match step s with
  | .next t => t
  | .fault _ => s
  | .refused _ => s

/-- V15. -/
theorem test_setStepMode_trace :
    (run (.setStepMode 6) (after 1 .loopback)).events =
      [.wr .stby false, .wait 100, .wr .stck false, .wr .dir true, .wr .mode1 true, .wr .mode2 true,
       .wait 100, .resp 0 0] := by decide
/-- V12 and V18. -/
theorem test_setStepMode_invalid :
    (run (.setStepMode 0x109) (vector ⟨false, true, true, true, true⟩ 4 9)).events = [.resp 1 0] ∧
    (run (.setStepMode 0x109) (vector ⟨false, true, true, true, true⟩ 4 9)).stepMode = 4 := by decide
/-- V17. -/
theorem test_init :
    (run (.init 5) (vector ⟨true, false, true, false, true⟩ 2 9)).events =
      [.run false, .wr .stby false, .wait 100, .wr .stck false, .wr .dir false, .wr .mode1 false,
       .wr .mode2 true, .wait 100, .resp 0 0] ∧
    (run (.init 5) (vector ⟨true, false, true, false, true⟩ 2 9)).stepPeriod = 77 ∧
    (run (.init 5) (vector ⟨true, false, true, false, true⟩ 2 9)).lines =
      ⟨false, false, false, false, true⟩ := by decide
/-- V13a. -/
theorem test_init_invalid : (run (.init 9) (vector ⟨true, false, true, false, true⟩ 2 9)).stepPeriod = 9 := by
  decide
/-- V14. -/
theorem test_mode_lines :
    (run (.setStepMode 3) (after 1 .loopback)).lines = ⟨false, true, false, true, true⟩ ∧
    (run (.setStepMode 4) (after 1 .loopback)).lines = ⟨false, true, true, true, true⟩ ∧
    (run (.setStepMode 2) (after 1 .loopback)).lines = ⟨false, false, true, false, true⟩ := by decide
/-- V43. -/
theorem test_getStepMode : (run .getStepMode (vector Lines.reset 7 9)).rspData = 7 := by decide
/-- V24. -/
theorem test_runSteps :
    (run (.runSteps 3 true) (vector ⟨false, true, false, true, true⟩ 3 4)).events =
      [.run true, .wr .stby true, .wait 100, .wr .dir true,
       .wr .stck true, .wait 4, .wr .stck false, .wait 4, .wr .stck true, .wait 4, .wr .stck false, .wait 4,
       .wr .stck true, .wait 4, .wr .stck false, .wait 4, .run false, .resp 0 0] ∧
    (run (.runSteps 3 true) (vector ⟨false, true, false, true, true⟩ 3 4)).lines =
      ⟨true, false, true, true, true⟩ := by decide
/-- V21. -/
theorem test_runSteps_none :
    (run (.runSteps 0 false) (vector ⟨false, true, true, true, true⟩ 4 4)).events =
      [.run true, .wr .stby true, .wait 100, .wr .dir false, .run false, .resp 0 0] ∧
    (run (.runSteps 0 false) (vector ⟨false, true, true, true, true⟩ 4 4)).lines.stck = true := by decide
/-- V25b and V29. -/
theorem test_runRevolutions :
    (run (.runRevolutions 2 false) (vector Lines.reset 3 0)).trace.drop 4 =
      [.pulses 32768 0, .event (.run false), .event (.resp 0 0)] ∧
    (run (.runRevolutions 0 true) (after 1 .loopback)).events =
      (run (.runSteps 0 true) (after 1 .loopback)).events := by decide
/-- V25 to V28. -/
theorem test_revTotal :
    revTotal 0 5 = 0 ∧ revTotal 1 4 = 32768 ∧ revTotal 3 1 = 12288 ∧ revTotal 1 8 = 524288 ∧
    revTotal 0xFFFFFFFF 0 = 8796093020160 ∧ revTotal 0xFFFFFFFF 8 = 2251799813160960 := by decide
/-- V41. -/
theorem test_stop :
    (run .stop (vector ⟨true, false, false, true, true⟩ 4 9)).events =
      [.wr .stby false, .wait 100, .wr .stck true, .wr .dir true, .wr .mode1 true, .wr .mode2 true,
       .wait 100, .run false, .resp 0 0] ∧
    (run .stop (vector ⟨true, false, false, true, true⟩ 4 9)).stepPeriod = 9 := by decide
/-- V39. -/
theorem test_setDirection :
    (run (.setDirection true) (after 1 .loopback)).events = [.wr .dir true, .wait 10, .resp 0 0] ∧
    (run (.setDirection true) (after 1 .loopback)).lines = ⟨false, false, true, false, false⟩ := by decide
/-- V39, V14. -/
theorem test_getDirection :
    (run .getDirection (vector ⟨true, true, false, true, true⟩ 0 0)).rspData = 0 ∧
    (run .getDirection (vector ⟨false, false, true, false, false⟩ 0 0)).rspData = 1 := by decide
/-- V32 to V36. -/
theorem test_setStepPeriod :
    (run (.setStepPeriod 1) (after 1 .loopback)).stepPeriod = 0 ∧
    (run (.setStepPeriod 1001) (after 1 .loopback)).stepPeriod = 500 ∧
    (run (.setStepPeriod 0xFFFFFFFF) (after 1 .loopback)).stepPeriod = 0x7FFFFFFF := by decide
/-- V38. -/
theorem test_getStepPeriod : (run .getStepPeriod (after 1 .loopback)).rspData = 77 := by decide

/-! The step and the reference realisation. -/

/-- The block idle with the word on the port. -/
def presented (u : Nat) (p : Arg) (w : CmdWord) : State :=
  { after u .loopback with stepPeriod := p, commands := [w] }

/-- V10: the answer to the raw word of P2. -/
theorem test_step_illegal :
    (stepped (presented 1 0 0x0000000922)).events = [.resp 2 0] ∧
    (stepped (presented 1 0 0x0000000922)).commands = [] := by decide
theorem test_step_runs : (stepped (presented 1 0 0x0000000017)).lines.dir = true := by decide
/-- V49 to V52. -/
theorem test_cycle_table :
    commandCycles .getStepMode (after 1 .loopback) = 2 ∧ commandCycles (.init 0) (after 1 .loopback) = 207 ∧
    commandCycles (.setDirection false) (after 1 .loopback) = 13 ∧
    commandCycles .stop (after 1 .loopback) = 208 ∧
    commandCycles (.runSteps 1 false) { after 1 .loopback with stepPeriod := 0 } = 107 ∧
    commandCycles (.runSteps 2 false) { after 2 .loopback with stepPeriod := 3 } = 233 := by decide
/-- In the last cycle of the wait that a command has reached after `n` cycles. -/
def lastOfWait (n : Nat) (s : State) : State := { s.cycles n with unitCnt := 1 }

/-- V53: acceptance and the first line write. -/
theorem test_cycle_begin :
    ((presented 1 0 0x0000000104).cycles 1).runningO = true ∧
    ((presented 1 0 0x0000000104).cycles 1).lineO .stby = false ∧
    ((presented 1 0 0x0000000104).cycles 2).lineO .stby = true ∧
    ((presented 1 0 0x0000000104).cycles 2).fsm = .wait .wake ∧
    ((presented 1 0 0x0000000104).cycles 2).unitCnt = 100 := by decide
/-- V53, counted from cycle 101: cycle 104 is 3 cycles on, and so forth. -/
theorem test_cycle_waveform :
    ((lastOfWait 2 (presented 1 0 0x0000000104)).cycles 2).lineO .stck = false ∧
    ((lastOfWait 2 (presented 1 0 0x0000000104)).cycles 3).lineO .stck = true ∧
    ((lastOfWait 2 (presented 1 0 0x0000000104)).cycles 4).lineO .stck = false ∧
    ((lastOfWait 2 (presented 1 0 0x0000000104)).cycles 4).runningO = true ∧
    ((lastOfWait 2 (presented 1 0 0x0000000104)).cycles 5).runningO = false ∧
    ((lastOfWait 2 (presented 1 0 0x0000000104)).cycles 5).responseO = (true, 0, 0) ∧
    ((lastOfWait 2 (presented 1 0 0x0000000104)).cycles 6).cmdReady = true := by decide
/-- V47: `init 1` with `rst` asserted in cycle 103, which is 2 cycles after the wait's last. -/
theorem test_cycle_reset :
    ((lastOfWait 2 (presented 1 0 0x0000000101)).cycles 2).events =
      [.run false, .wr .stby false, .wait 100, .wr .stck true] ∧
    (((lastOfWait 2 (presented 1 0 0x0000000101)).cycles 2).withRst true).cycle.lines = Lines.reset ∧
    (((lastOfWait 2 (presented 1 0 0x0000000101)).cycles 2).withRst true).cycle.stepMode = 0 ∧
    (((lastOfWait 2 (presented 1 0 0x0000000101)).cycles 2).withRst true).cycle.cmdReady = false := by decide

/-! Witnesses: what meets the hypotheses of each obligation that has some. -/

theorem witness_DecodeThenEncodeGivesTheWord : decode 0x0000000017 = .ok (.setDirection true) := by decide
theorem witness_MatchAndMaskDecideTheCommand :
    (0xFFFFFFFF14 &&& Opcode.runSteps.format.mask : CmdWord) = Opcode.runSteps.matchWord ∧
    (0x0000000024 &&& Opcode.runSteps.format.mask : CmdWord) ≠ Opcode.runSteps.matchWord := by decide
/-- Each check of the decoder at a boundary value, and a word past all of them. -/
theorem witness_DecodeChecksInOrder :
    (0x0000000000 : CmdWord).extractLsb' 0 4 = 0 ∧ 0xB#4 ≤ (0x000000000B : CmdWord).extractLsb' 0 4 ∧
    (0x0000000024 : CmdWord).extractLsb' 5 3 ≠ 0 ∧
    (((0x000000001A : CmdWord).extractLsb' 0 4).toNat ∈ [1, 2, 3, 6, 8, 9, 10] ∧
      (0x000000001A : CmdWord).extractLsb' 4 1 ≠ 0) ∧
    (((0x0000000107 : CmdWord).extractLsb' 0 4).toNat ∈ [3, 6, 7, 8, 10] ∧
      (0x0000000107 : CmdWord).extractLsb' 8 32 ≠ 0) ∧
    decode 0x000000000A = .ok .getStepPeriod := by decide
theorem witness_ModeEncoderTable : 8 < (9 : Mode).toNat ∧ 8 < (15 : Mode).toNat := by decide
theorem witness_InitAppliesTheMode : (0 : Arg).toNat ≤ 8 ∧ (8 : Arg).toNat ≤ 8 := by decide
theorem witness_SetStepModeAppliesTheMode : (0 : Arg).toNat ≤ 8 ∧ (8 : Arg).toNat ≤ 8 := by decide
theorem witness_GetDirectionReadsTheLine :
    (after 1 .loopback).params.dirReadback = .loopback ∧ (after 1 .pad).params.dirReadback = .pad := by decide
theorem witness_RevolutionTotalIsExact : (0 : Mode).toNat ≤ 8 ∧ (8 : Mode).toNat ≤ 8 := by decide

/-- Lines as a run leaves them in mode 4. -/
def afterRun : State := vector ⟨true, false, false, true, true⟩ 4 9

theorem witness_RunLeavesTheLines :
    isRun (.runSteps 1 true) = true ∧ isRun (.runRevolutions 0 false) = true ∧
    Instr.opcode .getStepMode ∉ [.init, .setStepMode, .stop] ∧ (∃ t, exec .getStepMode afterRun = .next t) ∧
    afterRun.lines.stby = true :=
  ⟨by decide, by decide, by decide, ⟨_, rfl⟩, rfl⟩
theorem witness_AccessorLaws :
    (8 : Arg).toNat ≤ 8 ∧ 2 * (0x7FFFFFFF : Arg).toNat < 2 ^ 32 ∧
    (vector Lines.reset 0 0x7FFFFFFF).stepPeriod = 0x7FFFFFFF ∧
    (∃ t, exec (.setStepPeriod 0xFFFFFFFF) afterRun = .next t) ∧
    afterRun.params.dirReadback = .loopback ∧ Instr.getDirection ∈ [.getStepMode, .getDirection, .getStepPeriod] :=
  ⟨by decide, by decide, rfl, ⟨_, rfl⟩, rfl, by decide⟩

/-- An illegal word (V10) and two words with a bad mode (V13, V13a), each presented to an idle block. -/
theorem witness_ErrorsOnlyRespond :
    (presented 1 0 0x0000000922).rst = false ∧ (presented 1 0 0x0000000922).rspStatus ≠ statusReserved ∧
    (presented 1 0 0x0000000922).fsm = .idle ∧ (presented 1 0 0x0000000922).commands = 0x0000000922 :: [] ∧
    decode 0x0000000922 = .error .reservedBits ∧ decode 0x0000000901 = .ok (.init 9) ∧ 8 < (9 : Arg).toNat ∧
    decode 0xFFFFFFFF02 = .ok (.setStepMode 0xFFFFFFFF) ∧ 8 < (0xFFFFFFFF : Arg).toNat := by decide
theorem witness_ErrorPriority :
    ((presented 1 0 0x0000000922).withRst true).rst = true ∧
    (presented 1 0 0x0000000922).rst = false ∧ (presented 1 0 0x0000000922).rspStatus ≠ statusReserved ∧
    (presented 1 0 0x0000000922).fsm = .idle ∧ (presented 1 0 0x0000000922).commands = 0x0000000922 :: [] ∧
    decode 0x0000000922 = .error .reservedBits ∧ decode 0x0000000902 = .ok (.setStepMode 9) := by decide
theorem witness_EveryCommandRespondsOnceAndLast :
    afterRun.rst = false ∧ (∃ t, exec .stop afterRun = .next t) ∧
    (∃ t, runWord 0x0000000922 afterRun = .next t) ∧
    (presented 1 0 0x0000000104).rst = false ∧ (presented 1 0 0x0000000104).cycle.fsm ≠ .respond :=
  ⟨rfl, ⟨_, rfl⟩, ⟨_, rfl⟩, rfl, by decide⟩
theorem witness_CommandsWriteOnlyTheirState :
    (∃ t, exec .getDirection afterRun = .next t) ∧
    Instr.opcode .getDirection ∉ [.init, .setStepMode, .stop, .runSteps, .runRevolutions, .setDirection] :=
  ⟨⟨_, rfl⟩, by decide⟩
theorem witness_LatchesFollowTheTrace : (∃ t, exec .stop afterRun = .next t) ∧ afterRun.rst = false :=
  ⟨⟨_, rfl⟩, rfl⟩
/-- The response registers hold their values through a cycle that does not lead into a Respond cycle:
4 cycles into a run, the answer of the command before (R31, R81). -/
theorem test_cycle_keeps_response :
    (({ presented 1 0 0x0000000104 with rspStatus := 1, rspData := 7 } : State).cycles 4).rspStatus = 1 ∧
    (({ presented 1 0 0x0000000104 with rspStatus := 1, rspData := 7 } : State).cycles 4).rspData = 7 := by decide
/-- Two states that differ in the flag, the counters, `cmd_q`, the response registers and the ports. -/
theorem witness_CommandsDoNotReadHiddenState :
    let s := afterRun
    let s' := { afterRun with
      running := true, presc := 3, unitCnt := 4, pulseCnt := 5, cmdQ := 6, rspData := 7, commands := [8] }
    (∃ t, exec (.runSteps 2 true) s = .next t ∧ t.rspStatus = statusOk) ∧
    (∃ t, exec (.runSteps 2 true) s' = .next t) ∧
    Instr.opcode (.runSteps 2 true) ∈ [.init, .runSteps, .runRevolutions, .stop] ∧
    s'.stepMode = s.stepMode ∧ s'.stepPeriod = s.stepPeriod ∧ s'.lines = s.lines ∧ s'.params = s.params ∧
    s'.padDraws = s.padDraws ∧ s' ≠ s :=
  ⟨⟨_, rfl, rfl⟩, ⟨_, rfl⟩, by decide, rfl, rfl, rfl, rfl, rfl, by decide⟩
theorem witness_SequenceOverwritesTheDirection :
    Instr.opcode .stop ∈ [.init, .setStepMode, .stop] ∧ (∃ t, exec .stop afterRun = .next t ∧
      t.rspStatus = statusOk ∧ t.params.dirReadback = .loopback) ∧
    isRun (.runSteps 2 true) = true ∧ (∃ t, exec (.runSteps 2 true) afterRun = .next t) :=
  ⟨by decide, ⟨_, rfl, rfl, rfl⟩, by decide, ⟨_, rfl⟩⟩
/-- A run of one pulse from STCK low and from STCK high (V22, V23), and a reset. -/
theorem witness_RisingEdgesOfARun :
    isRun (.runSteps 1 false) = true ∧ 1 ≤ pulsesOf (.runSteps 1 false) afterRun ∧
    (∃ t, exec (.runSteps 1 false) afterRun = .next t) ∧ afterRun.lines.stck = false ∧
    (∃ t, exec (.runSteps 1 false) (vector ⟨false, true, false, true, true⟩ 3 0) = .next t) ∧
    (vector ⟨false, true, false, true, true⟩ 3 0).lines.stck = true ∧ (afterRun.withRst true).rst = true :=
  ⟨by decide, by decide, ⟨_, rfl⟩, rfl, ⟨_, rfl⟩, rfl, rfl⟩
theorem witness_WaitTotals :
    (∃ t, exec (.init 8) afterRun = .next t) ∧ (∃ t, exec (.init 9) afterRun = .next t) ∧
    (∃ t, exec (.runSteps 2 true) afterRun = .next t) := ⟨⟨_, rfl⟩, ⟨_, rfl⟩, ⟨_, rfl⟩⟩
/-- A latest `setStepPeriod`, a latest `init`, and neither: the rejected `init` writes nothing. -/
theorem witness_StepPeriodIsTheLatest :
    [.init 3, .setStepPeriod 7, .stop, .init 9] = [Instr.init 3] ++ .setStepPeriod 7 :: [.stop, .init 9] ∧
    (∀ i ∈ [Instr.stop, .init 9], writesPeriod i = false) ∧
    [.setStepPeriod 7, .init 8, .stop] = [Instr.setStepPeriod 7] ++ .init 8 :: [.stop] ∧ (8 : Arg).toNat ≤ 8 ∧
    (∀ i ∈ [Instr.stop], writesPeriod i = false) := by decide

/-- A run in its first wait, with `rst` asserted. -/
def resetMidRun : State := ((presented 1 0 0x0000000104).cycles 2).withRst true

theorem witness_ResetValues : resetMidRun.rst = true ∧ resetMidRun.params = ⟨0, 77, .loopback⟩ ∧
    step resetMidRun = .next resetMidRun.resetEdge ∧ resetMidRun.running = true :=
  ⟨rfl, rfl, rfl, rfl⟩
theorem witness_ResetAbandonsTheCommand : resetMidRun.rst = true := rfl
theorem witness_ReadyRightAfterReset : resetMidRun.rst = true := rfl

theorem witness_StepRunsThePresentedCommand :
    (presented 1 0 0x0000000017).rst = false ∧ (presented 1 0 0x0000000017).rspStatus ≠ statusReserved ∧
    (presented 1 0 0x0000000017).fsm = .idle ∧ (presented 1 0 0x0000000017).commands = 0x0000000017 :: [] ∧
    decode 0x0000000017 = .ok (.setDirection true) ∧ decode 0x0000000000 = .error .reservedOpcode := by decide
theorem witness_StepWithoutACommandOrMidCommand :
    resetMidRun.rst = true ∧ afterRun.rst = false ∧ afterRun.rspStatus ≠ statusReserved ∧
    afterRun.fsm = .idle ∧ afterRun.commands = [] ∧
    (resetMidRun.withRst false).rst = false ∧ (resetMidRun.withRst false).rspStatus ≠ statusReserved ∧
    (resetMidRun.withRst false).fsm ≠ .idle := by decide
theorem witness_StepRefusesOnlyReservedStatus :
    ∃ r, step { afterRun with rspStatus := statusReserved } = .refused r := ⟨_, rfl⟩
theorem witness_PlacedWordRunsNext :
    decodeTableWord 40 0x0000000017 = some (.setDirection true) ∧
    step (State.withFetchWord resetMidRun 40 0x0000000017) =
      exec (.setDirection true) ((State.withFetchWord resetMidRun 40 0x0000000017).accept 0x0000000017) :=
  ⟨by decide, rfl⟩

/-- A legal idle state with a run presented, and a step from it. -/
theorem witness_StepKeepsLegalStates :
    (presented 1 77 0x0000000104).Inv ∧ ∃ t, step (presented 1 77 0x0000000104) = .next t :=
  ⟨⟨by decide, rfl, rfl, by decide, .inl rfl, trivial, ⟨rfl, rfl⟩, rfl⟩, ⟨_, rfl⟩⟩
/-- A legal state in the middle of a run. -/
theorem witness_CycleKeepsLegalStates : (resetMidRun.withRst false).Inv :=
  ⟨by decide, by decide, by decide, by decide, .inr (by decide), ⟨.runSteps, by decide, by decide⟩,
    ⟨by decide, by decide, by decide⟩, trivial⟩
theorem witness_LegalStatesNeverStop : (resetMidRun.withRst false).Inv := witness_CycleKeepsLegalStates

/-- From reset, the run of V53 on the port. -/
def runPresented : State := (State.resetWith ⟨0, 0, .loopback⟩).withCommands [0x0000000104]

/-- `n` cycles lead from a reachable state to a reachable one. -/
theorem reachable_cycles {p : Params} (n : Nat) {s : State} (h : Reachable p s) : Reachable p (s.cycles n) := by
  induction n generalizing s with
  | zero => exact h
  | succ n ih => exact ih h.cycle

theorem witness_StepModeIsAlwaysLegal : Reachable ⟨0, 0, .loopback⟩ (runPresented.cycles 2) :=
  reachable_cycles 2 (.drivePort _ .reset)

/-- The wait of the preamble, in one go. -/
theorem runPresented_cycles (n : Nat) :
    runPresented.cycles (102 + n) = ((runPresented.cycles 2).endWait .wake).cycles n := by
  rw [State.cycles_add]
  exact congrArg (State.cycles n) ((State.cycles_add 2 100 runPresented).trans
    (State.wait_cycles (s := runPresented.cycles 2) (k := .wake) rfl rfl rfl (by decide)))

/-- The edges that set and clear the flag: cycles 0 and 105 of V53. -/
theorem witness_RunningExactlyDuringRuns :
    (Reachable ⟨0, 0, .loopback⟩ runPresented ∧ runPresented.rst = false ∧ runPresented.fsm = .idle ∧
      runPresented.running = false ∧ runPresented.cycle.running = true) ∧
    (Reachable ⟨0, 0, .loopback⟩ (runPresented.cycles 105) ∧ (runPresented.cycles 105).rst = false ∧
      (runPresented.cycles 105).running = true ∧ (runPresented.cycles 105).cycle.running = false) := by
  refine ⟨⟨.drivePort _ .reset, by decide⟩, reachable_cycles 105 (.drivePort _ .reset), ?_⟩
  rw [runPresented_cycles 3]
  decide

theorem witness_HandshakeTakesOneWord :
    runPresented.cmdReady = true ∧ runPresented.commands = 0x0000000104 :: [] ∧
    afterRun.cmdReady = true ∧ afterRun.cmdValid = false ∧ (runPresented.cycles 2).cmdReady = false := by decide
theorem witness_AtMostOneLatchPerCycle : (runPresented.cycles 1).rst = false := rfl
/-- `stop` presented from cycle 1 of a run, for two cycles (P4). -/
theorem witness_PresentedWordsDoNotDisturb :
    (runPresented.cycles 1).rst = false ∧ ∀ j < 2, ((runPresented.cycles 1).cycles j).fsm ≠ .idle := by decide
theorem witness_ReferenceRealisesTheCommand :
    runPresented.rst = false ∧ runPresented.rspStatus ≠ statusReserved ∧ runPresented.fsm = .idle ∧
    runPresented.commands = 0x0000000104 :: [] ∧ ∃ t, step runPresented = .next t :=
  ⟨rfl, by decide, rfl, rfl, ⟨_, rfl⟩⟩
theorem witness_BusyForTheTableCycles :
    runPresented.rst = false ∧ runPresented.fsm = .idle ∧ runPresented.rspValid = false ∧
    runPresented.commands = 0x0000000104 :: [] ∧ wordCycles 0x0000000104 runPresented = 107 := by decide
theorem witness_RunWaveform :
    runPresented.rst = false ∧ runPresented.fsm = .idle ∧ runPresented.commands = 0x0000000104 :: [] ∧
    decode 0x0000000104 = .ok (.runSteps 1 false) ∧ isRun (.runSteps 1 false) = true ∧
    pulsesOf (.runSteps 1 false) runPresented = 1 ∧ runPresented.stepPeriod.toNat = 0 ∧
    runPresented.unitCycles = 1 := by decide

end Sys2Proof.Tests
end

/-! PROOFS. The registers `step_mode` and `step_period`: what each command and each clock cycle does to
them, and the obligations of `10_state.md` about them and about reset. -/

namespace Sys2Proof.Machine

/-! What a command does to the two registers (R21, R22). -/

/-- `step_mode` after a command that finds it at `a`: only a valid `init` or `setStepMode` changes it
(R21, R200). -/
def modeAfter (i : Instr) (a : Mode) : Mode :=
  match i with
  | .init m | .setStepMode m => if modeValid m then modeOf m else a
  | .getStepMode | .runSteps _ _ | .runRevolutions _ _ | .stop | .setDirection _ | .getDirection
  | .setStepPeriod _ | .getStepPeriod => a

/-- `step_period` after a command that finds it at `x`, where `dflt` is `DEFAULT_STEP_PERIOD` (R22, R200). -/
def periodAfter (dflt x : Arg) (i : Instr) : Arg :=
  match i with
  | .init m => if modeValid m then dflt else x
  | .setStepPeriod p => halfPeriod p
  | .setStepMode _ | .getStepMode | .runSteps _ _ | .runRevolutions _ _ | .stop | .setDirection _
  | .getDirection | .getStepPeriod => x

/-- A command with an invalid mode writes nothing, so it leaves a legal mode legal. -/
theorem modeAfter_le {a : Mode} (i : Instr) (h : a.toNat ≤ maxMode) : (modeAfter i a).toNat ≤ maxMode := by
  have stored (m : Arg) : (if modeValid m then modeOf m else a).toNat ≤ maxMode := by
    split
    · next hm => exact modeOf_toNat hm ▸ (modeValid_iff m).mp hm
    · exact h
  cases i with
  | init m | setStepMode m => exact stored m
  | _ => exact h

theorem periodAfter_init_valid {m : Arg} (dflt x : Arg) (h : m.toNat ≤ 8) :
    periodAfter dflt x (.init m) = dflt := if_pos ((modeValid_iff m).mpr h)

theorem periodAfter_of_not_writesPeriod {i : Instr} (dflt x : Arg) (h : writesPeriod i = false) :
    periodAfter dflt x i = x := by
  cases i with
  | init m => exact if_neg ((modeValid_iff m).not.mpr (of_decide_eq_false h))
  | setStepPeriod p => cases h
  | _ => rfl

@[simp] theorem State.runPulses_stepMode (n : PulseCount) (d : Level) (s : State) :
    (s.runPulses n d).stepMode = s.stepMode := by
  obtain ⟨-, -, -, -, -, -, hm, -⟩ := State.runPulses_spec s n d
  exact hm

@[simp] theorem State.runPulses_stepPeriod (n : PulseCount) (d : Level) (s : State) :
    (s.runPulses n d).stepPeriod = s.stepPeriod := by
  obtain ⟨-, -, -, -, -, -, -, hp, -⟩ := State.runPulses_spec s n d
  exact hp

@[simp] theorem State.runPulses_params (n : PulseCount) (d : Level) (s : State) :
    (s.runPulses n d).params = s.params := by
  obtain ⟨-, -, -, -, -, -, -, -, -, -, -, -, -, hparams⟩ := State.runPulses_spec s n d
  exact hparams

/-- Every command completes, with these values in the registers and the parameters unchanged. -/
theorem exec_registers (i : Instr) (s : State) : ∃ t, exec i s = .next t ∧ t.params = s.params ∧
    t.stepMode = modeAfter i s.stepMode ∧
    t.stepPeriod = periodAfter s.params.defaultStepPeriod s.stepPeriod i := by
  cases i with
  | init m =>
    simp only [exec, execInit, modeAfter, periodAfter]
    split <;> exact ⟨_, rfl, rfl, rfl, rfl⟩
  | setStepMode m =>
    simp only [exec, execSetStepMode, modeAfter, periodAfter]
    split <;> exact ⟨_, rfl, rfl, rfl, rfl⟩
  | _ => exact ⟨_, rfl, by simp, by simp [modeAfter], by simp [periodAfter]⟩

theorem exec_stepMode {i : Instr} {s t : State} (h : exec i s = .next t) :
    t.stepMode = modeAfter i s.stepMode := by
  obtain ⟨u, hu, -, hm, -⟩ := exec_registers i s
  cases hu.symm.trans h
  exact hm

/-! Lists of commands (R34). -/

/-- A list of commands completes, and `step_period` has gone through what each command does to it. -/
theorem execAll_stepPeriod (is : List Instr) (s : State) : ∃ t, execAll is s = .next t ∧
    t.stepPeriod = is.foldl (periodAfter s.params.defaultStepPeriod) s.stepPeriod := by
  induction is generalizing s with
  | nil => exact ⟨s, rfl, rfl⟩
  | cons i is ih =>
    obtain ⟨u, hu, hparams, -, hperiod⟩ := exec_registers i s
    obtain ⟨t, ht, hfold⟩ := ih u
    exact ⟨t, by simpa only [execAll, hu] using ht, by rw [hfold, hparams, hperiod]; rfl⟩

theorem foldl_periodAfter_of_not_writesPeriod {is : List Instr} (dflt x : Arg)
    (h : ∀ i ∈ is, writesPeriod i = false) : is.foldl (periodAfter dflt) x = x := by
  induction is with
  | nil => rfl
  | cons i is ih =>
    obtain ⟨hi, his⟩ := List.forall_mem_cons.mp h
    rw [List.foldl_cons, periodAfter_of_not_writesPeriod dflt x hi, ih his]

/-- Only the latest command that writes `step_period` counts. -/
theorem foldl_periodAfter_latest {post : List Instr} (pre : List Instr) (i : Instr) (dflt x : Arg)
    (h : ∀ j ∈ post, writesPeriod j = false) :
    (pre ++ i :: post).foldl (periodAfter dflt) x = periodAfter dflt (pre.foldl (periodAfter dflt) x) i := by
  rw [List.foldl_append, List.foldl_cons, foldl_periodAfter_of_not_writesPeriod _ _ h]

/-- Settles O31: the period is folded through the list, and commands after the latest write do not
change it. -/
theorem stepPeriodIsTheLatest : Obligations.StepPeriodIsTheLatest := by
  intro p is
  obtain ⟨t, ht, hperiod⟩ := execAll_stepPeriod is (State.resetWith p)
  refine ⟨t, ht, ?_, ?_, ?_⟩
  · rintro pre q post rfl hpost
    rw [hperiod, foldl_periodAfter_latest pre _ _ _ hpost]
    exact halfPeriod_toNat q
  · rintro pre m post rfl hm hpost
    rw [hperiod, foldl_periodAfter_latest pre _ _ _ hpost]
    exact periodAfter_init_valid _ _ hm
  · intro his
    rw [hperiod, foldl_periodAfter_of_not_writesPeriod _ _ his]
    rfl

/-! What a clock cycle does to `step_mode`: it is written at the acceptance edge alone (R240). -/

section
variable (s : State)

@[simp] theorem State.nextPulse_stepMode : s.nextPulse.stepMode = s.stepMode := by
  unfold State.nextPulse; split <;> rfl

@[simp] theorem State.afterWait_stepMode (k : WaitStep) : (s.afterWait k).stepMode = s.stepMode := by
  cases k with
  | latch => simp only [State.afterWait]; split <;> rfl
  | low => exact s.nextPulse_stepMode
  | _ => rfl

@[simp] theorem State.endWait_stepMode (k : WaitStep) : (s.endWait k).stepMode = s.stepMode :=
  State.afterWait_stepMode _ k

@[simp] theorem State.startWait_stepMode (k : WaitStep) : (s.startWait k).stepMode = s.stepMode := by
  unfold State.startWait; split
  · exact s.endWait_stepMode k
  · rfl

@[simp] theorem State.waitCycle_stepMode (k : WaitStep) : (s.waitCycle k).stepMode = s.stepMode := by
  unfold State.waitCycle; split
  · rfl
  · split
    · exact s.endWait_stepMode k
    · rfl

@[simp] theorem State.lineCycle_stepMode (k : LineStep) : (s.lineCycle k).stepMode = s.stepMode := by
  cases k <;> simp [State.lineCycle]

/-- The acceptance edge writes the mode the whole command leaves. -/
theorem State.begin_stepMode (i : Instr) : (s.begin i).stepMode = modeAfter i s.stepMode := by
  cases i with
  | init m | setStepMode m => simp only [State.begin, modeAfter]; split <;> rfl
  | getDirection => exact s.afterReadDir_stepMode
  | _ => rfl

end

theorem State.acceptEdge_stepMode_le {s : State} (w : CmdWord) (h : s.stepMode.toNat ≤ maxMode) :
    (s.acceptEdge w).stepMode.toNat ≤ maxMode := by
  unfold State.acceptEdge; split
  · next i _ =>
    rw [State.begin_stepMode]
    exact modeAfter_le i h
  · exact h

/-- A clock cycle keeps a legal mode legal. -/
theorem State.cycle_stepMode_le {s : State} (h : s.stepMode.toNat ≤ maxMode) :
    s.cycle.stepMode.toNat ≤ maxMode := by
  unfold State.cycle; split
  · exact Nat.zero_le _
  · split
    · split
      · exact h
      · exact State.acceptEdge_stepMode_le _ h
    · simpa using h
    · simpa using h
    · exact h
    · exact h

/-- The word on the port, run whole, keeps a legal mode legal. -/
theorem runWord_stepMode_le {w : CmdWord} {s t : State} (h : s.stepMode.toNat ≤ maxMode)
    (ht : runWord w s = .next t) : t.stepMode.toNat ≤ maxMode := by
  obtain ⟨i, -, hi⟩ | ⟨r, -, rfl⟩ := runWord_cases ht
  · rw [exec_stepMode hi]
    exact modeAfter_le i h
  · exact h

/-- A step keeps a legal mode legal. -/
theorem step_stepMode_le {s t : State} (h : s.stepMode.toNat ≤ maxMode) (ht : step s = .next t) :
    t.stepMode.toNat ≤ maxMode := by
  obtain ⟨-, rfl⟩ | ⟨-, -, ⟨-, -, rfl⟩ | ⟨w, q, -, -, hw⟩ | ⟨-, rfl⟩⟩ := step_cases ht
  · exact Nat.zero_le _
  · exact h
  · exact runWord_stepMode_le h hw
  · exact State.cycle_stepMode_le h

/-- The mode of a reachable state is legal: it is so at reset, and neither a step, nor a clock cycle, nor
the environment changes that (R32). -/
theorem Reachable.stepMode_le {p : Params} {s : State} (h : Reachable p s) : s.stepMode.toNat ≤ maxMode := by
  induction h with
  | reset => exact Nat.zero_le _
  | step _ ht ih => exact step_stepMode_le ih ht
  | cycle _ ih => exact State.cycle_stepMode_le ih
  | driveRst _ _ ih => exact ih
  | drivePort _ _ ih => exact ih

/-- Settles O43, by induction on how the state is reached; a legal mode is a present entry of the LUT. -/
theorem stepModeIsAlwaysLegal : Obligations.StepModeIsAlwaysLegal := by
  intro p s h
  exact ⟨h.stepMode_le, (lutRead_valid_iff _).mpr h.stepMode_le⟩

/-! Reset (R35). -/

/-- A step with `rst = 1` is the reset edge. -/
theorem step_eq_resetEdge {s : State} (hr : s.rst = true) : step s = .next s.resetEdge := by
  simp [step, stepBody, hr]

/-- Settles O32: a reset edge restores the values of `State.resetWith`, and those are R35's. -/
theorem resetValues : Obligations.ResetValues := by
  refine ⟨?_, rfl, rfl⟩
  rintro p s (rfl | ⟨u, hr, rfl, hu⟩)
  · exact ⟨rfl, rfl, rfl, rfl, rfl, rfl, rfl, rfl, rfl, rfl, rfl, rfl⟩
  · cases (step_eq_resetEdge hr).symm.trans hu
    exact ⟨rfl, rfl, rfl, rfl, rfl, rfl, rfl, rfl, rfl, rfl, rfl, rfl⟩

end Sys2Proof.Machine

/-! PROOFS. The sub-block `step_pulse_gen`: the pulse totals, and what a run leaves on the lines
(`41_pulse_generator.md`). -/

namespace Sys2Proof.Machine

/-! The revolution total (R133). -/

theorem revolutionPulses_le (r : Arg) {m : Mode} {k : Nat} (h : m.toNat ≤ k) :
    revolutionPulses r m ≤ (2 ^ 32 - 1) * 2048 * 2 ^ k := by
  have hr : r.toNat ≤ 2 ^ 32 - 1 := Nat.le_pred_of_lt r.isLt
  have hm : 2 ^ m.toNat ≤ 2 ^ k := Nat.pow_le_pow_right Nat.two_pos h
  exact Nat.mul_le_mul (Nat.mul_le_mul_right 2048 hr) hm

/-- A mode has four bits, so not even an illegal one makes the product too large for `PULSE_W` bits. -/
theorem revolutionPulses_lt (r : Arg) (m : Mode) : revolutionPulses r m < 2 ^ 64 :=
  (revolutionPulses_le r (Nat.le_of_lt_succ m.isLt)).trans_lt (by decide)

/-- The 64-bit product never wraps. -/
theorem revTotal_toNat (r : Arg) (m : Mode) : (revTotal r m).toNat = revolutionPulses r m := by
  rw [← Nat.mod_eq_of_lt (revolutionPulses_lt r m)]
  simp [revTotal, revolutionPulses, stepsPerRev, Nat.mul_mod]

/-- `2048 * 2^m` is a shift by `11 + m` bits. -/
theorem revTotal_eq_shiftLeft (r : Arg) (m : Mode) : revTotal r m = r.setWidth 64 <<< (11 + m.toNat) := by
  have hshift : r.toNat <<< (11 + m.toNat) = revolutionPulses r m := by
    rw [Nat.shiftLeft_eq, Nat.pow_add, ← Nat.mul_assoc, revolutionPulses]
  apply BitVec.eq_of_toNat_eq
  rw [revTotal_toNat, BitVec.toNat_shiftLeft, BitVec.toNat_setWidth_of_le (by decide), hshift,
    Nat.mod_eq_of_lt (revolutionPulses_lt r m)]

/-- Settles O18: the total is the product on the naturals, and that is bounded by the largest operand
and the largest mode. -/
theorem revolutionTotalIsExact : Obligations.RevolutionTotalIsExact := by
  refine ⟨fun r m hm => ⟨revTotal_toNat r m, revTotal_eq_shiftLeft r m, ?_⟩, ?_, ?_, ?_, fun _ _ _ => rfl⟩
  · rw [revTotal_toNat]
    exact revolutionPulses_le r hm
  all_goals rw [revTotal_toNat]; rfl

/-! What a run leaves (R137). -/

/-- A run command is a run of the pulses it is asked for, in its direction (R135, R136). -/
theorem exec_of_isRun {i : Instr} (h : isRun i = true) (s : State) :
    ∃ n : PulseCount, n.toNat = pulsesOf i s ∧ exec i s = .next (s.runPulses n i.dir) := by
  cases i with
  | runSteps count d => exact ⟨stepTotal count, stepTotal_toNat count, rfl⟩
  | runRevolutions r d => exact ⟨revTotal r s.stepMode, revTotal_toNat r s.stepMode, rfl⟩
  | _ => cases h

@[simp] theorem State.runPulses_lines (n : PulseCount) (d : Level) (s : State) :
    (s.runPulses n d).lines =
      { s.lines with stby := true, dir := d, stck := if n.toNat = 0 then s.lines.stck else false } := by
  obtain ⟨-, hl, -⟩ := State.runPulses_spec s n d
  exact hl

theorem mem_pulseEvents_of_mem_trainEvents {e : Event} {n : Nat} {p : Arg} (h : e ∈ trainEvents n p) :
    e ∈ pulseEvents p := by
  induction n with
  | zero => cases h
  | succ n ih => exact (List.mem_append.mp h).elim id ih

/-- The preamble drives STBY high, a pulse drives STCK alone, and the postamble drives no line. -/
theorem wr_stby_false_not_mem_runEvents (n : Nat) (d : Level) (p : Arg) :
    Event.wr .stby false ∉ runEvents n d p := by
  have htrain : Event.wr .stby false ∉ trainEvents n p := fun h => by
    simpa [pulseEvents] using mem_pulseEvents_of_mem_trainEvents h
  simp [runEvents, htrain]

/-- Only the commands that run the mode-configuration sequence drive STBY low. -/
theorem exec_keeps_stby_high {i : Instr} {s t : State} (hi : i.opcode ∉ [.init, .setStepMode, .stop])
    (h : exec i s = .next t) (hs : s.lines.stby = true) : t.lines.stby = true := by
  cases i with
  | init m | setStepMode m | stop => simp [Instr.opcode] at hi
  | runSteps n d | runRevolutions r d => cases h; simp
  | getDirection => cases h; simpa using hs
  | _ => cases h; exact hs

/-- Settles O20: a run command is `State.runPulses`, which says what it leaves; its trace and the other
commands have no write of 0 to STBY. -/
theorem runLeavesTheLines : Obligations.RunLeavesTheLines := by
  refine ⟨fun i s hi => ?_, wr_stby_false_not_mem_runEvents, fun _ _ _ => exec_keeps_stby_high⟩
  obtain ⟨n, hn, hexec⟩ := exec_of_isRun hi s
  obtain ⟨hevents, hlines, hrunning, hcnt, -, -, hmode, hperiod, -⟩ := State.runPulses_spec s n i.dir
  rw [hn] at hevents hlines
  refine ⟨_, hexec, ?_⟩
  rw [hlines]
  exact ⟨rfl, rfl, rfl, rfl, rfl, hrunning, hmode, hperiod, hcnt, hevents⟩

end Sys2Proof.Machine

/-! PROOFS. Reset, the direction line under the sequence and under a run, the time units a command waits
(`70_reset_and_hazards.md`). -/

namespace Sys2Proof.Machine

/-! Reset (R230, R231). -/

/-- A clock cycle with `rst = 1` is the reset edge. -/
theorem State.cycle_eq_resetEdge {s : State} (hr : s.rst = true) : s.cycle = s.resetEdge := by
  simp [State.cycle, hr]

@[simp] theorem State.resetEdge_lineO (s : State) (l : Line) : s.resetEdge.lineO l = false := by
  cases l <;> rfl

/-- Settles O33: `State.resetEdge` has each of R35's values and keeps the trace and the port. -/
theorem resetAbandonsTheCommand : Obligations.ResetAbandonsTheCommand := by
  intro s hr
  rw [State.cycle_eq_resetEdge hr]
  exact ⟨by simp [State.cmdReady, hr], rfl, rfl, rfl, rfl, s.resetEdge_lineO, rfl, rfl, rfl, rfl, rfl, rfl,
    rfl, rfl, rfl⟩

/-- Beginning a command touches neither `cmd_q` nor the port. -/
theorem State.begin_port (i : Instr) (s : State) :
    (s.begin i).cmdQ = s.cmdQ ∧ (s.begin i).commands = s.commands := by
  cases i with
  | init m | setStepMode m => simp only [State.begin]; split <;> exact ⟨rfl, rfl⟩
  | getDirection => exact ⟨s.afterReadDir_cmdQ, s.afterReadDir_commands⟩
  | _ => exact ⟨rfl, rfl⟩

/-- The acceptance edge copies the word into `cmd_q` and takes it off the port, legal or not (R71). -/
theorem State.acceptEdge_port (w : CmdWord) (s : State) :
    (s.acceptEdge w).cmdQ = w ∧ (s.acceptEdge w).commands = s.commands.tail := by
  unfold State.acceptEdge; split
  · next i _ => exact State.begin_port i (s.accept w)
  · exact ⟨rfl, rfl⟩

/-- Settles O34: the reset edge leaves `fsm` in IDLE, so the cycle after it is an acceptance edge. -/
theorem readyRightAfterReset : Obligations.ReadyRightAfterReset := by
  intro s w q hr
  rw [State.cycle_eq_resetEdge hr]
  refine ⟨rfl, rfl, rfl, s.resetEdge_lineO, ?_⟩
  rw [State.cycle_accept (w := w) (q := q) rfl rfl rfl]
  exact State.acceptEdge_port w _

/-! The events a command adds to the trace. -/

/-- The events of each command executed in `s`, its response included (R105 to R165, R200). -/
def commandEvents (i : Instr) (s : State) : List Event :=
  match i with
  | .init m =>
    if modeValid m then .run false :: cfgEvents (lutRead (modeOf m)).pattern ++ [.resp statusOk 0]
    else [.resp statusInvalidMode 0]
  | .setStepMode m =>
    if modeValid m then cfgEvents (lutRead (modeOf m)).pattern ++ [.resp statusOk 0]
    else [.resp statusInvalidMode 0]
  | .getStepMode => [.resp statusOk (s.stepMode.setWidth 32)]
  | .runSteps _ d | .runRevolutions _ d => runEvents (pulsesOf i s) d s.stepPeriod ++ [.resp statusOk 0]
  | .stop => cfgEvents (lutRead s.stepMode).pattern ++ [.run false, .resp statusOk 0]
  | .setDirection d => [.wr .dir d, .wait tDir, .resp statusOk 0]
  | .getDirection => [.resp statusOk s.readDir.zext32]
  | .setStepPeriod _ => [.resp statusOk 0]
  | .getStepPeriod => [.resp statusOk s.stepPeriod]

theorem exec_events {i : Instr} {s t : State} (h : exec i s = .next t) :
    t.events = s.events ++ commandEvents i s := by
  cases i with
  | init m | setStepMode m =>
    simp only [exec, execInit, execSetStepMode] at h
    simp only [commandEvents]
    split at h <;> cases h <;> simp [*]
  | runSteps count d | runRevolutions r d =>
    cases h
    rw [State.runPulses_events]
    simp [commandEvents, pulsesOf, stepTotal_toNat, revTotal_toNat]
  | _ => cases h; simp [commandEvents]

/-! The time units a command waits (R241). -/

theorem totalWait_append (a b : List Event) : totalWait (a ++ b) = totalWait a + totalWait b := by
  induction a with
  | nil => simp [totalWait]
  | cons e a ih => cases e <;> simp [totalWait, ih, Nat.add_assoc]

/-- Each pulse waits twice. -/
theorem totalWait_trainEvents (n : Nat) (p : Arg) : totalWait (trainEvents n p) = 2 * p.toNat * n := by
  induction n with
  | zero => rfl
  | succ n ih =>
    rw [trainEvents, totalWait_append, ih]
    simp only [pulseEvents, totalWait]
    ring

theorem totalWait_cfgEvents (pat : Pattern) : totalWait (cfgEvents pat) = 200 := rfl

theorem totalWait_runEvents (n : Nat) (d : Level) (p : Arg) :
    totalWait (runEvents n d p) = 100 + 2 * p.toNat * n := by
  rw [runEvents, totalWait_append, totalWait_append, totalWait_trainEvents]
  rfl

theorem totalWait_commandEvents (i : Instr) (s : State) : totalWait (commandEvents i s) = tableWait i s := by
  cases i with
  | init m | setStepMode m =>
    simp only [commandEvents, tableWait, modeValid_iff, maxMode]
    split <;> rfl
  | runSteps n d | runRevolutions r d =>
    rw [commandEvents, totalWait_append, totalWait_runEvents]
    rfl
  | _ => rfl

/-- Settles O30: the waits are counted in the list of events each command adds. -/
theorem waitTotals : Obligations.WaitTotals :=
  ⟨fun i s _ h => ⟨_, exec_events h, totalWait_commandEvents i s⟩, totalWait_trainEvents⟩

/-! The direction line (R235). -/

/-- A command that runs the mode-configuration sequence and completes OK leaves the lines of its mode. -/
theorem exec_sequence_lines {i : Instr} {s t : State} (hi : i.opcode ∈ [.init, .setStepMode, .stop])
    (h : exec i s = .next t) (hok : t.rspStatus = statusOk) :
    t.lines = cfgLines (lutRead t.stepMode).pattern := by
  cases i with
  | init m | setStepMode m =>
    simp only [exec, execInit, execSetStepMode] at h
    split at h <;> cases h
    · simp
    · exact absurd hok (by decide : statusInvalidMode ≠ statusOk)
  | stop => cases h; simp
  | _ => simp [Instr.opcode] at hi

theorem State.readDir_of_loopback {s : State} (h : s.params.dirReadback = .loopback) :
    s.readDir = s.lines.dir := by
  simp [State.readDir, h]

/-- A pulse train drives STCK alone. -/
theorem wr_dir_not_mem_trainEvents (n : Nat) (p : Arg) (b : Level) : Event.wr .dir b ∉ trainEvents n p :=
  fun h => by simpa [pulseEvents] using mem_pulseEvents_of_mem_trainEvents h

/-- Settles O28: the sequence's lines include DIR; a run writes DIR in its preamble, before the train, and
neither the train nor the postamble writes it. -/
theorem sequenceOverwritesTheDirection : Obligations.SequenceOverwritesTheDirection := by
  refine ⟨fun i s t hi h hok => ?_, fun i s t hi h => ?_⟩
  · have hdir : t.lines.dir = (lutRead t.stepMode).pattern.getLsbD 2 := by
      rw [exec_sequence_lines hi h hok]; rfl
    exact ⟨hdir, fun hl => ⟨_, rfl, by rw [State.respond_rspData, State.readDir_of_loopback hl, hdir]⟩⟩
  · obtain ⟨n, -, hexec⟩ := exec_of_isRun hi s
    cases hexec.symm.trans h
    refine ⟨[.run true, .wr .stby true, .wait tWake],
      trainEvents n.toNat s.stepPeriod ++ [.run false, .resp statusOk 0], ?_, by simp, ?_⟩
    · rw [State.runPulses_events]; simp [runEvents]
    · rintro e he b rfl
      simp [wr_dir_not_mem_trainEvents] at he

end Sys2Proof.Machine

/-! PROOFS. The waveform of a run in the reference realisation: what the lines and `running_o` show in
each cycle (`70_reset_and_hazards.md` rule R242). -/

namespace Sys2Proof.Machine

/-- What the state shows on the line ports and on `running_o`. -/
def State.Shows (t : State) (x : Lines) (b : Level) : Prop := t.lines = x ∧ t.running = b

theorem State.Shows.lineO {t : State} {x : Lines} {b : Level} (h : t.Shows x b) (l : Line) :
    t.lineO l = x.get l := congrArg (Lines.get l) h.1

/-! Neither a wait nor its end drives a line or the flag. -/

section
variable (s : State) (k : WaitStep)

theorem State.nextPulse_shows : s.nextPulse.Shows s.lines s.running := by
  unfold State.nextPulse; split <;> exact ⟨rfl, rfl⟩

theorem State.afterWait_shows : (s.afterWait k).Shows s.lines s.running := by
  cases k with
  | latch => simp only [State.afterWait]; split <;> exact ⟨rfl, rfl⟩
  | low => exact s.nextPulse_shows
  | _ => exact ⟨rfl, rfl⟩

theorem State.endWait_shows : (s.endWait k).Shows s.lines s.running := State.afterWait_shows _ k

end

/-- From the edge that starts a wait to the edge that ends it, the outputs stand. -/
theorem State.startWait_shows {s : State} {k : WaitStep} {j : Nat} (hr : s.rst = false)
    (hj : j ≤ (s.waitUnits k).toNat * s.unitCycles) :
    ((s.startWait k).cycles j).Shows s.lines s.running := by
  obtain hlt | rfl := hj.lt_or_eq
  · have hne : s.waitUnits k ≠ 0 := by
      intro h
      simp [h] at hlt
    rw [State.startWait, if_neg hne,
      State.wait_within (s := { s with fsm := .wait k, presc := 0, unitCnt := s.waitUnits k }) hr rfl rfl j hlt]
    exact ⟨rfl, rfl⟩
  · rw [State.startWait_cycles s k hr]
    exact s.endWait_shows k

/-! One pulse (R132): STCK is high for `pU + 1` cycles and then low for as many. -/

/-- The cycles STCK is high in a pulse, and those it is low (R242). -/
def State.pulseHalf (s : State) : Nat := s.stepPeriod.toNat * s.unitCycles + 1

/-- The cycles from one rising write of STCK to the next (R242). -/
def State.pulsePeriod (s : State) : Nat := 2 * s.stepPeriod.toNat * s.unitCycles + 2

theorem State.pulsePeriod_eq (s : State) : s.pulsePeriod = s.pulseHalf + s.pulseHalf := by
  simp only [State.pulsePeriod, State.pulseHalf]
  ring

theorem State.pulsesDone_eq_false {s : State} (h : 0 < s.pulseCnt.toNat) : s.pulsesDone = false := by
  simp only [State.pulsesDone, beq_eq_false_iff_ne]
  intro h0
  simp [h0] at h

theorem State.nextPulse_of_pulsesDone_false {s : State} (h : s.pulsesDone = false) :
    s.nextPulse = s.goto (.line .pulseHigh) := by
  simp [State.nextPulse, h]

section
variable {s : State} (hr : s.rst = false)
include hr

/-- The high half of a pulse, with the cycle that drives STCK low still to come. -/
theorem State.pulse_high_shows {c : Nat} (hd : s.pulsesDone = false) (hc : c < s.pulseHalf) :
    (s.nextPulse.cycles (1 + c)).Shows (s.lines.set .stck true) s.running := by
  rw [State.nextPulse_of_pulsesDone_false hd, State.cycles_one_add, State.goto_line_cycle _ _ hr]
  exact State.startWait_shows hr (Nat.le_of_lt_succ hc)

/-- The high half takes the block to the cycle that drives STCK low. -/
theorem State.pulse_high_cycles (hd : s.pulsesDone = false) :
    s.nextPulse.cycles s.pulseHalf = ((s.setLine .stck true).wait s.stepPeriod).goto (.line .pulseLow) := by
  rw [State.nextPulse_of_pulsesDone_false hd, State.pulseHalf, Nat.add_comm, State.cycles_one_add,
    State.goto_line_cycle _ _ hr]
  exact State.startWait_cycles_of hr rfl

/-- The low half of a pulse, with the next pulse or the postamble still to come. -/
theorem State.pulse_low_shows {c : Nat} (hd : s.pulsesDone = false) (hc : c < s.pulseHalf) :
    (s.nextPulse.cycles (s.pulseHalf + (1 + c))).Shows (s.lines.set .stck false) s.running := by
  rw [State.cycles_add, State.pulse_high_cycles hr hd, State.cycles_one_add,
    State.goto_line_cycle _ _ (by exact hr)]
  exact State.startWait_shows (k := .low) hr (Nat.le_of_lt_succ hc)

theorem State.pulse_shows {c : Nat} (hd : s.pulsesDone = false) (hc : c < s.pulsePeriod) :
    (s.nextPulse.cycles (1 + c)).Shows (s.lines.set .stck (decide (c < s.pulseHalf))) s.running := by
  by_cases hhigh : c < s.pulseHalf
  · rw [decide_eq_true hhigh]
    exact State.pulse_high_shows hr hd hhigh
  · obtain ⟨e, rfl⟩ := Nat.exists_eq_add_of_le (Nat.le_of_not_lt hhigh)
    rw [decide_eq_false hhigh, Nat.add_left_comm]
    rw [State.pulsePeriod_eq] at hc
    exact State.pulse_low_shows hr hd (Nat.lt_of_add_lt_add_left hc)

end

theorem State.pulse_pulseCnt {s : State} (h : 0 < s.pulseCnt.toNat) :
    s.pulse.pulseCnt.toNat = s.pulseCnt.toNat - 1 := by
  have hle : 1#64 ≤ s.pulseCnt := BitVec.le_def.mpr h
  exact BitVec.toNat_sub_of_le hle

/-- Every pulse of the loop looks like the first one: a pulse leaves the outputs but for STCK, which the
next one drives again. -/
theorem State.pulseLoop_shows {k c : Nat} {s : State} (hr : s.rst = false) (hk : k < s.pulseCnt.toNat)
    (hc : c < s.pulsePeriod) :
    (s.nextPulse.cycles (k * s.pulsePeriod + (1 + c))).Shows
      (s.lines.set .stck (decide (c < s.pulseHalf))) s.running := by
  have hpos : 0 < s.pulseCnt.toNat := Nat.zero_lt_of_lt hk
  have hd := State.pulsesDone_eq_false hpos
  induction k generalizing s with
  | zero => simpa using State.pulse_shows hr hd hc
  | succ k ih =>
    have hk' : k < s.pulse.pulseCnt.toNat := by
      rw [State.pulse_pulseCnt hpos]
      omega
    have hpos' : 0 < s.pulse.pulseCnt.toNat := Nat.zero_lt_of_lt hk'
    have hpulse : s.nextPulse.cycles s.pulsePeriod = s.pulse.nextPulse := State.pulse_cycles s hr hd
    rw [Nat.succ_mul, Nat.add_comm (k * _), Nat.add_assoc, State.cycles_add, hpulse,
      ← Lines.set_set s.lines .stck true, ← Lines.set_set _ .stck false]
    exact ih (s := s.pulse) hr hk' hc hpos' (State.pulsesDone_eq_false hpos')

/-! A run, from the cycle after its acceptance: `r` is the state the acceptance edge leaves but for `fsm`. -/

/-- The lines of a run from its direction write on, with STCK at `b` (R131, R132). -/
def State.runLines (r : State) (b : Level) : Lines :=
  { r.lines with stby := true, dir := r.operandDir, stck := b }

/-- The top of the pulse loop in a run: `Preamble` is over, but for its first event `Run(1)` (R131). -/
def State.loopTop (r : State) : State :=
  ((r.setLine .stby true).wait tWake).setLine .dir r.operandDir

/-- How many cycles after the first of a run `pulse_cnt` is at zero: preamble and pulses (R240). -/
def State.runLength (r : State) : Nat :=
  100 * r.unitCycles + 2 + r.pulseCnt.toNat * r.pulsePeriod

section
variable {r : State} (hr : r.rst = false)
include hr

/-- STBY is high from the second cycle of a run on, and nothing else moves during the wake-up wait. -/
theorem State.run_wake_shows {j : Nat} (hj : j ≤ 100 * r.unitCycles) :
    ((r.goto (.line .runStby)).cycles (1 + j)).Shows (r.lines.set .stby true) r.running := by
  rw [State.cycles_one_add, State.goto_line_cycle _ _ hr]
  exact State.startWait_shows (k := .wake) hr hj

/-- The preamble takes the block to the top of the pulse loop, DIR driven (R131). -/
theorem State.run_preamble_cycles :
    (r.goto (.line .runStby)).cycles (100 * r.unitCycles + 2) = r.loopTop.nextPulse := by
  have hwake : (((r.goto (.line .runStby)).setLine .stby true).startWait .wake).cycles (100 * r.unitCycles) =
      ((r.setLine .stby true).wait tWake).goto (.line .runDir) := State.startWait_cycles_of hr rfl
  rw [show 100 * r.unitCycles + 2 = 1 + (100 * r.unitCycles + 1) by omega, State.cycles_one_add,
    State.goto_line_cycle _ _ hr, State.cycles_succ]
  refine (congrArg State.cycle hwake).trans ?_
  rw [State.goto_line_cycle _ _ (by exact hr)]
  exact State.goto_nextPulse r.loopTop _

/-- DIR is driven and STCK not yet. -/
theorem State.run_preamble_shows :
    ((r.goto (.line .runStby)).cycles (100 * r.unitCycles + 2)).Shows (r.runLines r.lines.stck) r.running := by
  rw [State.run_preamble_cycles hr]
  exact State.nextPulse_shows _

/-- Cycle `c` of pulse `k`. -/
theorem State.run_pulse_shows {k c : Nat} (hk : k < r.pulseCnt.toNat) (hc : c < r.pulsePeriod) :
    ((r.goto (.line .runStby)).cycles (100 * r.unitCycles + 2 + (k * r.pulsePeriod + (1 + c)))).Shows
      (r.runLines (decide (c < r.pulseHalf))) r.running := by
  rw [State.cycles_add, State.run_preamble_cycles hr]
  exact State.pulseLoop_shows (s := r.loopTop) hr hk hc

/-- From the direction write to the end of the last pulse the run shows its lines, STCK at some level. -/
theorem State.run_loop_shows {j : Nat} (hlo : 100 * r.unitCycles + 2 ≤ j) (hhi : j ≤ r.runLength) :
    ∃ b, ((r.goto (.line .runStby)).cycles j).Shows (r.runLines b) r.running := by
  obtain ⟨m, rfl⟩ := Nat.exists_eq_add_of_le hlo
  cases m with
  | zero => exact ⟨_, State.run_preamble_shows hr⟩
  | succ m =>
    have hP : 0 < r.pulsePeriod := Nat.succ_pos _
    have hm : m < r.pulseCnt.toNat * r.pulsePeriod := by
      unfold State.runLength at hhi
      omega
    have h := State.run_pulse_shows hr ((Nat.div_lt_iff_lt_mul hP).mpr hm) (Nat.mod_lt m hP)
    rw [Nat.add_left_comm (_ * _), Nat.div_add_mod', Nat.add_comm 1 m] at h
    exact ⟨_, h⟩

/-- After the pulses the flag is about to be cleared. -/
theorem State.run_loop_cycles :
    (r.goto (.line .runStby)).cycles r.runLength =
      (r.loopTop.pulseLoop r.pulseCnt.toNat).goto .clearRunning := by
  rw [State.runLength, State.cycles_add, State.run_preamble_cycles hr]
  exact State.pulseLoop_cycles r.pulseCnt.toNat r.loopTop hr rfl

/-- The Respond cycle and the cycle after it: the lines stand and the flag is cleared. -/
theorem State.run_end_shows : ∃ b,
    ((r.goto (.line .runStby)).cycles (r.runLength + 1)).Shows (r.runLines b) false ∧
    ((r.goto (.line .runStby)).cycles (r.runLength + 2)).Shows (r.runLines b) false := by
  obtain ⟨b, hlines, -⟩ := State.run_loop_shows (j := r.runLength) hr (Nat.le_add_right _ _) le_rfl
  have hrst : (r.loopTop.pulseLoop r.pulseCnt.toNat).rst = false := by
    rw [State.pulseLoop_rst]
    exact hr
  rw [State.run_loop_cycles hr] at hlines
  refine ⟨b, ?_⟩
  rw [State.cycles_succ (r.runLength + 1), State.cycles_succ, State.run_loop_cycles hr,
    State.goto_clearRunning_cycle _ hrst, State.cycle_respond (by exact hrst) rfl]
  exact ⟨⟨hlines, rfl⟩, ⟨hlines, rfl⟩⟩

/-! The three stretches of a run put together. -/

/-- Until DIR is driven a run shows the lines it found, but for STBY. -/
theorem State.run_lineO_before {j : Nat} {l : Line} (hl : l ≠ .stby) (hj : j ≤ 100 * r.unitCycles + 1) :
    ((r.goto (.line .runStby)).cycles j).lineO l = r.lines.get l := by
  cases j with
  | zero => rfl
  | succ j =>
    have h := State.run_wake_shows hr (Nat.le_of_succ_le_succ hj)
    rw [Nat.add_comm j, h.lineO, Lines.get_set, if_neg hl]

/-- From the direction write to the cycle after the Respond cycle a run shows its lines. -/
theorem State.run_lines_after {j : Nat} (hlo : 100 * r.unitCycles + 2 ≤ j) (hhi : j ≤ r.runLength + 2) :
    ∃ b c, ((r.goto (.line .runStby)).cycles j).Shows (r.runLines b) c := by
  obtain hloop | rfl | rfl : j ≤ r.runLength ∨ j = r.runLength + 1 ∨ j = r.runLength + 2 := by omega
  · obtain ⟨b, h⟩ := State.run_loop_shows hr hlo hloop
    exact ⟨b, _, h⟩
  · obtain ⟨b, h, -⟩ := State.run_end_shows hr
    exact ⟨b, _, h⟩
  · obtain ⟨b, -, h⟩ := State.run_end_shows hr
    exact ⟨b, _, h⟩

/-- STBY is high from the second cycle of a run on. -/
theorem State.run_stby {j : Nat} (hlo : 1 ≤ j) (hhi : j ≤ r.runLength + 2) :
    ((r.goto (.line .runStby)).cycles j).lineO .stby = true := by
  by_cases hwake : j ≤ 100 * r.unitCycles + 1
  · obtain ⟨j, rfl⟩ := Nat.exists_eq_add_of_le hlo
    exact (State.run_wake_shows hr (by omega)).lineO .stby
  · obtain ⟨b, c, h⟩ := State.run_lines_after hr (by omega) hhi
    exact h.lineO .stby

/-- The flag stands until the pulses are done. -/
theorem State.run_running {j : Nat} (hj : j ≤ r.runLength) :
    ((r.goto (.line .runStby)).cycles j).running = r.running := by
  by_cases hwake : j ≤ 100 * r.unitCycles + 1
  · cases j with
    | zero => rfl
    | succ j =>
      rw [Nat.add_comm j]
      exact (State.run_wake_shows hr (Nat.le_of_succ_le_succ hwake)).2
  · obtain ⟨b, h⟩ := State.run_loop_shows hr (by omega) hj
    exact h.2

end

/-! The acceptance edge of a run. -/

/-- A word that decodes is built from its opcode and its operand fields (R77). -/
theorem decode_eq_build {w : CmdWord} {i : Instr} (h : decode w = .ok i) :
    ∃ o : Opcode, i = o.build (fieldsOf w).arg (fieldsOf w).d := by
  unfold decode decodeFields at h
  split at h
  · cases h
  · next o _ =>
    split at h
    · cases h
    · split at h
      · cases h
      · split at h
        · cases h
        · cases h; exact ⟨o, rfl⟩

/-- The direction of a run is the `d` field of its word (R72). -/
theorem dir_of_decode_run {w : CmdWord} {i : Instr} (h : decode w = .ok i) (hi : isRun i = true) :
    (fieldsOf w).d = i.dir := by
  obtain ⟨o, rfl⟩ := decode_eq_build h
  cases o with
  | runSteps | runRevolutions => rfl
  | _ => cases hi

/-- A run is accepted with the pulses it is asked for, and R240's table counts its cycles: `r` is the state
after the acceptance edge, but for `fsm`. -/
theorem State.cycle_accept_run {s : State} {w : CmdWord} {q : List CmdWord} {i : Instr} (hr : s.rst = false)
    (hf : s.fsm = .idle) (hq : s.commands = w :: q) (hd : decode w = .ok i) (hi : isRun i = true) :
    ∃ r : State, s.cycle = r.goto (.line .runStby) ∧ wordCycles w s = r.runLength + 3 ∧
      r.rst = false ∧ r.running = true ∧ r.lines = s.lines ∧ r.operandDir = i.dir ∧
      r.pulseCnt.toNat = pulsesOf i s ∧ r.stepPeriod = s.stepPeriod ∧ r.unitCycles = s.unitCycles := by
  have hdir := dir_of_decode_run hd hi
  have hlen (N : PulseCount) :
      runCycles N s = (((s.accept w).loadPulses N).setRunning true).runLength + 3 :=
    Nat.add_right_comm (100 * s.unitCycles + 2) 3 _
  rw [State.cycle_accept hr hf hq, State.acceptEdge, wordCycles, hd]
  cases i with
  | runSteps count d =>
    exact ⟨_, rfl, hlen _, hr, rfl, rfl, hdir, stepTotal_toNat count, rfl, rfl⟩
  | runRevolutions k d =>
    exact ⟨_, rfl, hlen _, hr, rfl, rfl, hdir, revTotal_toNat k s.stepMode, rfl, rfl⟩
  | _ => cases hi

/-- Settles O50: after the acceptance edge the run goes through the wake-up wait, the pulse loop and the
Respond cycle, and each of these stretches shows its outputs. -/
theorem runWaveform : Obligations.RunWaveform := by
  intro s w q i n p u hrst hf hq hd hi hn hp hu
  obtain ⟨r, hcycle, hlen, hr, hrunning, hlines, hdir, hcnt, hperiod, hunit⟩ :=
    State.cycle_accept_run hrst hf hq hd hi
  have hrun (j : Nat) : s.cycles (j + 1) = (r.goto (.line .runStby)).cycles j := by
    rw [State.cycles, hcycle]
  have hlineO (l : Line) : s.lineO l = r.lines.get l := by
    rw [hlines]
    rfl
  rw [hn] at hcnt
  rw [← hperiod] at hp
  rw [← hunit] at hu
  subst hcnt hp hu
  have hL : r.runLength = 100 * r.unitCycles + 2 + r.pulseCnt.toNat * r.pulsePeriod := rfl
  rw [hlen, ← hdir]
  refine ⟨(Nat.add_right_comm (100 * r.unitCycles + 2) 3 _).symm, ?running, ?cleared, ?stbyBefore, ?stby,
    ?dirBefore, ?dir, ?stckBefore, ?pulses⟩
  case running =>
    intro j hlo hhi
    obtain ⟨j, rfl⟩ := Nat.exists_eq_add_of_le' hlo
    rw [hrun, State.runningO, State.run_running hr (by omega), hrunning]
  case cleared =>
    obtain ⟨b, h, -⟩ := State.run_end_shows hr
    rw [show r.runLength + 3 - 1 = r.runLength + 1 + 1 by omega, hrun]
    exact h.2
  case stbyBefore =>
    rw [hrun, hlineO]
    rfl
  case stby =>
    intro j hlo hhi
    obtain ⟨j, rfl⟩ := Nat.exists_eq_add_of_le' (Nat.le_of_succ_le hlo)
    rw [hrun]
    exact State.run_stby hr (by omega) (by omega)
  case dirBefore =>
    intro j hhi
    cases j with
    | zero => rfl
    | succ j =>
      rw [hrun, hlineO]
      exact State.run_lineO_before hr (by decide) (by omega)
  case dir =>
    intro j hlo hhi
    obtain ⟨j, rfl⟩ := Nat.exists_eq_add_of_le' (Nat.one_le_of_lt hlo)
    obtain ⟨b, c, h⟩ := State.run_lines_after hr (j := j) (by omega) (by omega)
    rw [hrun]
    exact h.lineO .dir
  case stckBefore =>
    intro j hhi
    cases j with
    | zero => rfl
    | succ j =>
      rw [hrun, hlineO]
      obtain hlt | rfl : j ≤ 100 * r.unitCycles + 1 ∨ j = 100 * r.unitCycles + 2 := by omega
      · exact State.run_lineO_before hr (by decide) hlt
      · exact (State.run_preamble_shows hr).lineO .stck
  case pulses =>
    intro k c hk hc
    rw [show 100 * r.unitCycles + 4 + k * (2 * r.stepPeriod.toNat * r.unitCycles + 2) + c =
      100 * r.unitCycles + 2 + (k * (2 * r.stepPeriod.toNat * r.unitCycles + 2) + (1 + c)) + 1 by omega, hrun]
    exact (State.run_pulse_shows hr hk hc).lineO .stck

end Sys2Proof.Machine

/-! PROOFS. The command word: decoder and encoder are inverse to each other, the decoder's checks, the
assembler's statements, the mode table (`30_encoding.md`, `40_mode_encoder.md`). -/

namespace Sys2Proof.Machine

/-! The fields of a word hold all its bits (R70). -/

theorem eq_of_fieldsOf_eq {v w : CmdWord} (h : fieldsOf v = fieldsOf w) : v = w := by
  simp only [fieldsOf, Fields.mk.injEq] at h
  obtain ⟨hop, hd, hrsv, harg⟩ := h
  apply BitVec.eq_of_getLsbD_eq
  intro j hj
  have field {start len : Nat} (he : v.extractLsb' start len = w.extractLsb' start len) (hlo : start ≤ j)
      (hhi : j < start + len) : v.getLsbD j = w.getLsbD j := by
    have hbit := congrArg (BitVec.getLsbD · (j - start)) he
    simpa [show j - start < len by omega, Nat.add_sub_cancel' hlo] using hbit
  obtain hj | rfl | hj | hj : j < 4 ∨ j = 4 ∨ (5 ≤ j ∧ j < 8) ∨ 8 ≤ j := by omega
  · exact field hop (Nat.zero_le j) (by omega)
  · exact hd
  · exact field hrsv hj.1 hj.2
  · exact field harg hj (by omega)

theorem fieldsOf_inj {v w : CmdWord} : fieldsOf v = fieldsOf w ↔ v = w :=
  ⟨eq_of_fieldsOf_eq, fun h => h ▸ rfl⟩

/-- Masking a word masks each of its fields. -/
theorem fieldsOf_and (v w : CmdWord) :
    fieldsOf (v &&& w) =
      { op := (fieldsOf v).op &&& (fieldsOf w).op, d := (fieldsOf v).d && (fieldsOf w).d
        rsv := (fieldsOf v).rsv &&& (fieldsOf w).rsv, arg := (fieldsOf v).arg &&& (fieldsOf w).arg } := by
  simp [fieldsOf, BitVec.extractLsb'_and]

/-! What `Decode` answers (R77). -/

theorem dir_eq_false_of_hasDir {i : Instr} (h : i.opcode.format.hasDir = false) : i.dir = false := by
  cases i with
  | runSteps n d | runRevolutions r d | setDirection d => cases h
  | _ => rfl

theorem arg_eq_zero_of_hasArg {i : Instr} (h : i.opcode.format.hasArg = false) : i.arg = 0 := by
  cases i with
  | init m | setStepMode m | runSteps n d | runRevolutions r d | setStepPeriod p => cases h
  | _ => rfl

theorem Opcode.build_dir {o : Opcode} {d : Level} (a : Arg) (h : o.format.hasDir = false → d = false) :
    (o.build a d).dir = d := by
  cases o with
  | runSteps | runRevolutions | setDirection => rfl
  | _ => exact (h rfl).symm

theorem Opcode.build_arg {o : Opcode} {a : Arg} (d : Level) (h : o.format.hasArg = false → a = 0) :
    (o.build a d).arg = a := by
  cases o with
  | init | setStepMode | runSteps | runRevolutions | setStepPeriod => rfl
  | _ => exact (h rfl).symm

/-- The checks after the first, for a defined opcode (R77). -/
theorem decodeFields_of_opcode {f : Fields} {o : Opcode} (h : Opcode.ofBits f.op = some o) :
    decodeFields f =
      if f.rsv ≠ 0 then .error .reservedBits
      else if o.format.hasDir = false ∧ f.d = true then .error .directionNotZero
      else if o.format.hasArg = false ∧ f.arg ≠ 0 then .error .argumentNotZero
      else .ok (o.build f.arg f.d) := by
  simp only [decodeFields, h]

/-- `Decode` answers a command exactly on the fields the encoder writes for it. -/
theorem decodeFields_eq_ok_iff {f : Fields} {i : Instr} :
    decodeFields f = .ok i ↔ f = { op := i.opcode.bits, d := i.dir, rsv := 0, arg := i.arg } := by
  constructor
  · intro h
    cases ho : Opcode.ofBits f.op with
    | none => simp [decodeFields, ho] at h
    | some o =>
      rw [decodeFields_of_opcode ho] at h
      split_ifs at h with hrsv hdir harg
      cases h
      rw [Opcode.build_opcode, Opcode.bits_of_ofBits ho, Opcode.build_dir _ (by simpa using hdir),
        Opcode.build_arg _ (by simpa using harg), ← not_not.mp hrsv]
  · rintro rfl
    rw [decodeFields_of_opcode (Opcode.ofBits_bits i.opcode), if_neg (not_not.mpr rfl),
      if_neg (fun h => absurd h.2 (by simp [dir_eq_false_of_hasDir h.1])),
      if_neg (fun h => h.2 (arg_eq_zero_of_hasArg h.1)), Instr.build_opcode]

/-- The decoder answers exactly the command whose word it is given. -/
theorem decode_eq_ok_iff {w : CmdWord} {i : Instr} : decode w = .ok i ↔ w = encode i := by
  rw [decode, decodeFields_eq_ok_iff, ← fieldsOf_encode, fieldsOf_inj]

/-- Settles O1: the decoder answers a command on exactly one word, its own. -/
theorem encodeThenDecodeGivesTheCommand : Obligations.EncodeThenDecodeGivesTheCommand :=
  fun _ => decode_eq_ok_iff.mpr rfl

/-- Settles O2: the decoder answers a command on exactly one word, its own. -/
theorem decodeThenEncodeGivesTheWord : Obligations.DecodeThenEncodeGivesTheWord :=
  fun _ _ h => (decode_eq_ok_iff.mp h).symm

/-! Match and mask (R75, R76). -/

/-- The words of an opcode: its number, a zero `rsv`, and a zero wherever its format has no operand. -/
theorem decode_opcode_iff {w : CmdWord} {o : Opcode} :
    (∃ i, decode w = .ok i ∧ i.opcode = o) ↔
      (fieldsOf w).op = o.bits ∧ (fieldsOf w).rsv = 0 ∧ (o.format.hasDir = false → (fieldsOf w).d = false) ∧
        (o.format.hasArg = false → (fieldsOf w).arg = 0) := by
  simp only [decode, decodeFields_eq_ok_iff]
  constructor
  · rintro ⟨i, hf, rfl⟩
    rw [hf]
    exact ⟨rfl, rfl, dir_eq_false_of_hasDir, arg_eq_zero_of_hasArg⟩
  · rintro ⟨hop, hrsv, hdir, harg⟩
    refine ⟨o.build (fieldsOf w).arg (fieldsOf w).d, ?_, Opcode.build_opcode _ _ _⟩
    rw [Opcode.build_opcode, Opcode.build_dir _ hdir, Opcode.build_arg _ harg, ← hop, ← hrsv]

/-- A mask has ones in `op` and `rsv`, and in each operand field that its format does not have (R75). -/
theorem fieldsOf_mask (f : Format) :
    fieldsOf f.mask = ⟨.allOnes 4, !f.hasDir, .allOnes 3, if f.hasArg then 0 else .allOnes 32⟩ := by
  cases f <;> decide

theorem fieldsOf_matchWord (o : Opcode) :
    fieldsOf o.matchWord = { op := o.bits, d := false, rsv := 0, arg := 0 } := by
  cases o <;> decide

/-- Settles O3: masking keeps `op`, `rsv` and the operand fields that must be zero. -/
theorem matchAndMaskDecideTheCommand : Obligations.MatchAndMaskDecideTheCommand := by
  intro w o
  have hdir : ((fieldsOf w).d && !o.format.hasDir) = false ↔
      (o.format.hasDir = false → (fieldsOf w).d = false) := by
    cases o.format.hasDir <;> simp
  have harg : (fieldsOf w).arg &&& (if o.format.hasArg then 0 else BitVec.allOnes 32) = 0 ↔
      (o.format.hasArg = false → (fieldsOf w).arg = 0) := by
    cases o.format.hasArg with
    | false => rw [if_neg (by decide), BitVec.and_allOnes, forall_prop_of_true rfl]
    | true => simp
  rw [decode_opcode_iff, ← fieldsOf_inj, fieldsOf_and, fieldsOf_mask, fieldsOf_matchWord, Fields.mk.injEq,
    BitVec.and_allOnes, BitVec.and_allOnes, hdir, harg]
  exact and_congr_right fun _ => and_left_comm

/-! The checks of `Decode` in R77's order. -/

theorem extractLsb'_one_eq_ofBool (w : CmdWord) (j : Nat) :
    w.extractLsb' j 1 = BitVec.ofBool (w.getLsbD j) := by
  apply BitVec.eq_of_getLsbD_eq
  intro i hi
  obtain rfl : i = 0 := by omega
  simp

theorem hasDir_eq_false_iff (o : Opcode) :
    o.format.hasDir = false ↔ o.bits.toNat ∈ [1, 2, 3, 6, 8, 9, 10] := by
  cases o <;> decide

theorem hasArg_eq_false_iff (o : Opcode) :
    o.format.hasArg = false ↔ o.bits.toNat ∈ [3, 6, 7, 8, 10] := by
  cases o <;> decide

/-- Settles O4: `decodeFields` makes these checks, with the formats' opcodes as numbers. -/
theorem decodeChecksInOrder : Obligations.DecodeChecksInOrder := by
  intro w
  cases ho : Opcode.ofBits (fieldsOf w).op with
  | none =>
    have hreserved := (Opcode.ofBits_none_iff (w.extractLsb' 0 4)).mp ho
    rw [if_pos hreserved, decode, decodeFields, ho]
  | some o =>
    have hdefined : ¬(w.extractLsb' 0 4 = 0 ∨ 0xB#4 ≤ w.extractLsb' 0 4) := fun h => by
      cases ho.symm.trans ((Opcode.ofBits_none_iff _).mpr h)
    have hop : w.extractLsb' 0 4 = o.bits := (Opcode.bits_of_ofBits ho).symm
    have hrsv : w.extractLsb' 5 3 = (fieldsOf w).rsv := rfl
    have harg : w.extractLsb' 8 32 = (fieldsOf w).arg := rfl
    have hd : w.extractLsb' 4 1 = BitVec.ofBool (fieldsOf w).d := extractLsb'_one_eq_ofBool w 4
    have hd_ne : BitVec.ofBool (fieldsOf w).d ≠ 0 ↔ (fieldsOf w).d = true := by
      cases (fieldsOf w).d <;> decide
    rw [if_neg hdefined, decode, decodeFields_of_opcode ho]
    simp only [hop, hrsv, harg, hd, hd_ne, ← hasDir_eq_false_iff, ← hasArg_eq_false_iff]
    split_ifs with hrsv hdir harg
    · rfl
    · rfl
    · rfl
    · exact ⟨_, rfl, by rw [Opcode.build_opcode], Opcode.build_arg _ (by simpa using harg),
        by rw [Opcode.build_dir _ (by simpa using hdir)]⟩

/-! Sample words, statements, the mode table. -/

/-- Settles O5: fourteen words, decoded. -/
theorem sampleWordsDecode : Obligations.SampleWordsDecode := by
  unfold Obligations.SampleWordsDecode
  decide

@[simp] theorem fitsArg_toNat (a : Arg) : fitsArg a.toNat = true := decide_eq_true a.isLt

@[simp] theorem fitsDir_toNat (d : Level) : fitsDir d.toNat = true := by cases d <;> rfl

/-- Settles O6: the operands are written as numbers that fit their fields and are read back from them. -/
theorem statementOfACommandAssembles : Obligations.StatementOfACommandAssembles := by
  intro i
  have hwf : i.wellFormed = true := by
    cases i <;> simp [Instr.wellFormed, Instr.stmt, Stmt.wellFormed, Opcode.format, Format.operandCount,
      Format.operandsFit]
  refine ⟨hwf, ?_⟩
  rw [assembleStmt, if_pos (show i.stmt.wellFormed = true from hwf)]
  cases i <;> simp [Instr.stmt, Opcode.build, Opcode.format, Format.hasDir]

/-- Settles O7: the nine entries one by one; an index above 8 is in no entry of the table. -/
theorem modeEncoderTable : Obligations.ModeEncoderTable := by
  refine ⟨rfl, rfl, rfl, rfl, rfl, rfl, rfl, rfl, rfl, ?_⟩
  decide

end Sys2Proof.Machine

/-! PROOFS. The ten commands one by one, and the laws that relate them (`40_mode_encoder.md`,
`41_pulse_generator.md`, `42_accessors.md`). -/

namespace Sys2Proof.Machine

/-! The shape of each command's answer. -/

theorem exec_init_of_valid {m : Arg} (s : State) (h : m.toNat ≤ 8) :
    exec (.init m) s = .next (((s.loadDefaultPeriod.setRunning false).cfg (modeOf m)).respond statusOk 0) :=
  if_pos ((modeValid_iff m).mpr h)

theorem exec_init_of_invalid {m : Arg} (s : State) (h : 8 < m.toNat) :
    exec (.init m) s = .next (s.raise statusInvalidMode) := by
  simp [exec, execInit, modeValid_eq_false h]

theorem exec_setStepMode_of_valid {m : Arg} (s : State) (h : m.toNat ≤ 8) :
    exec (.setStepMode m) s = .next ((s.cfg (modeOf m)).respond statusOk 0) :=
  if_pos ((modeValid_iff m).mpr h)

theorem exec_setStepMode_of_invalid {m : Arg} (s : State) (h : 8 < m.toNat) :
    exec (.setStepMode m) s = .next (s.raise statusInvalidMode) := by
  simp [exec, execSetStepMode, modeValid_eq_false h]

/-- A response changes nothing but the response registers and `fsm` (R82). -/
theorem State.respond_onlyResponded (s : State) (st : BitVec 2) (d : Arg) :
    OnlyResponded st d s (s.respond st d) :=
  ⟨⟨rfl, rfl, rfl, rfl⟩, s.respond_events st d, ⟨rfl, rfl, rfl, rfl⟩, ⟨rfl, rfl, rfl⟩, ⟨rfl, rfl, rfl, rfl⟩⟩

/-- Reading the direction line leaves no trace but the draw (R27, R55). -/
theorem State.afterReadDir_respond_onlyResponded (s : State) (st : BitVec 2) (d : Arg) :
    OnlyResponded st d s (s.afterReadDir.respond st d) :=
  ⟨⟨rfl, rfl, rfl, rfl⟩, by simp, by simp [SameRegisters], by simp [SameCounters], by simp [SameSurroundings]⟩

theorem State.readDir_of_pad {s : State} (h : s.params.dirReadback = .pad) :
    s.readDir = Config.padLevel s.padDraws := by
  simp [State.readDir, h]

/-! `init`, `setStepMode`, `stop` (R105, R106, R165). -/

/-- Settles O8: default period, flag, sequence and response, one after another. -/
theorem initAppliesTheMode : Obligations.InitAppliesTheMode := by
  intro s m hm
  refine ⟨_, exec_init_of_valid s hm, modeOf_toNat ((modeValid_iff m).mpr hm), rfl, rfl, rfl, ?_,
    ⟨rfl, rfl, rfl, rfl⟩, ⟨rfl, rfl, rfl⟩, rfl, rfl, rfl, rfl, rfl⟩
  simp

/-- Settles O9: the sequence and the response. -/
theorem setStepModeAppliesTheMode : Obligations.SetStepModeAppliesTheMode := by
  intro s m hm
  refine ⟨_, exec_setStepMode_of_valid s hm, modeOf_toNat ((modeValid_iff m).mpr hm), rfl, rfl, rfl, ?_,
    ⟨rfl, rfl, rfl, rfl⟩, ⟨rfl, rfl, rfl⟩, rfl, rfl, rfl, rfl, rfl⟩
  simp

/-- Settles O13: the sequence with the stored mode, the flag, the response. -/
theorem stopReappliesTheMode : Obligations.StopReappliesTheMode := by
  intro s
  exact ⟨_, rfl, by simp, by simp, by simp, by simp, by simp, ⟨rfl, rfl, rfl, rfl⟩, by simp [WaitedCounters],
    by simp, by simp [SameSurroundings]⟩

/-! The accessors (R160 to R164). -/

/-- Settles O10: a response and nothing else. -/
theorem getStepModeResponds : Obligations.GetStepModeResponds :=
  fun s => ⟨_, rfl, s.respond_onlyResponded _ _, rfl⟩

/-- Settles O17: a response and nothing else. -/
theorem getStepPeriodResponds : Obligations.GetStepPeriodResponds :=
  fun s => ⟨_, rfl, s.respond_onlyResponded _ _, rfl⟩

/-- Settles O14: one latch is written, the wait passes, the response follows. -/
theorem setDirectionDrivesTheLine : Obligations.SetDirectionDrivesTheLine := by
  intro s d
  refine ⟨_, rfl, rfl, ?_, rfl, rfl, rfl, ⟨rfl, rfl, rfl, rfl⟩, ⟨rfl, rfl, rfl⟩, rfl, rfl, rfl, rfl, rfl⟩
  simp [tDir]

/-- Settles O15: what is read depends on the read-back, and only the pad uses up a draw. -/
theorem getDirectionReadsTheLine : Obligations.GetDirectionReadsTheLine := by
  refine fun s => ⟨fun h => ?_, fun h => ?_⟩
  · rw [← State.readDir_of_loopback h]
    exact ⟨_, rfl, s.afterReadDir_respond_onlyResponded _ _, by simp [h]⟩
  · rw [← State.readDir_of_pad h]
    exact ⟨_, rfl, s.afterReadDir_respond_onlyResponded _ _, by simp [h]⟩

/-- Settles O16: half the argument is stored, and a response given. -/
theorem setStepPeriodStoresHalf : Obligations.SetStepPeriodStoresHalf := by
  intro s p
  refine ⟨_, rfl, halfPeriod_toNat p, ?_, ⟨rfl, rfl, rfl, rfl⟩, rfl, rfl, rfl, ⟨rfl, rfl, rfl⟩, rfl, rfl,
    rfl, rfl, rfl⟩
  simp

/-! The runs (R135, R136). -/

/-- Settles O11: a run of `zext_64(count)` pulses. -/
theorem runStepsEmitsCountPulses : Obligations.RunStepsEmitsCountPulses := by
  intro s count d
  rw [← stepTotal_toNat count]
  exact ⟨_, rfl, State.runPulses_spec s (stepTotal count) d⟩

/-- Settles O12: a run of the revolution total, whose 64-bit product is exact. -/
theorem runRevolutionsEmitsTheProduct : Obligations.RunRevolutionsEmitsTheProduct := by
  intro s r d
  rw [← revTotal_toNat r s.stepMode]
  exact ⟨_, rfl, State.runPulses_spec s (revTotal r s.stepMode) d⟩

/-! The pulse loop and the pulse train (R132). -/

theorem State.pulse_events (s : State) : s.pulse.events = s.events ++ pulseEvents s.stepPeriod := by
  simp [State.pulse, pulseEvents]

/-- One pulse and the train of the pulses left are the train of all of them. -/
theorem State.pulse_pulseTrain_agrees {s : State} (h : 0 < s.pulseCnt.toNat) :
    (s.pulse.pulseTrain s.pulse.pulseCnt).Agrees (s.pulseTrain s.pulseCnt) := by
  refine ⟨?events, ?fields⟩
  case events =>
    obtain ⟨n, hn⟩ := Nat.exists_eq_add_of_le' h
    rw [State.pulseTrain_events, State.pulseTrain_events, State.pulse_pulseCnt h, hn, State.pulse_events,
      Nat.add_sub_cancel, trainEvents, List.append_assoc]
    rfl
  case fields =>
    have hne : s.pulseCnt ≠ 0 := fun h0 => by simp [h0] at h
    rw [State.pulseTrain, State.pulseTrain, if_neg hne]
    split <;> rfl

/-- `n` iterations of the loop from `pulse_cnt = n` are the train in one go. -/
theorem State.pulseLoop_agrees {n : Nat} {s : State} (h : s.pulseCnt.toNat = n) :
    (s.pulseLoop n).Agrees (s.pulseTrain s.pulseCnt) := by
  induction n generalizing s with
  | zero =>
    have h0 : s.pulseCnt = 0 := BitVec.eq_of_toNat_eq h
    have hs : s.pulseTrain s.pulseCnt = s := by rw [State.pulseTrain, if_pos h0, ← h0]; rfl
    rw [hs]
    exact State.Agrees.refl s
  | succ n ih =>
    have hpos : 0 < s.pulseCnt.toNat := h ▸ Nat.succ_pos n
    have hpulse : s.pulse.pulseCnt.toNat = n := by rw [State.pulse_pulseCnt hpos, h]; rfl
    exact (ih hpulse).trans (State.pulse_pulseTrain_agrees hpos)

/-- Settles O19: by induction on the pulses, each of which is taken off the train. -/
theorem pulseTrainIsTheLoop : Obligations.PulseTrainIsTheLoop :=
  fun s n => State.pulseLoop_agrees (s := s.loadPulses n) rfl

/-! The laws of the accessors (R166). -/

/-- Twice a value that fits is halved exactly. -/
theorem halfPeriod_two_mul {q : Arg} (h : 2 * q.toNat < 2 ^ 32) : halfPeriod (2 * q) = q := by
  apply BitVec.eq_of_toNat_eq
  rw [halfPeriod_toNat, BitVec.toNat_mul]
  have two : (2 : Arg).toNat = 2 := rfl
  rw [two, Nat.mod_eq_of_lt h]
  omega

/-- Settles O21: each law follows from what its two commands do. -/
theorem accessorLaws : Obligations.AccessorLaws := by
  refine ⟨?a, ?b, ?c, ?cBound, ?d, ?e, ?f⟩
  case a =>
    intro s m hm
    obtain ⟨t, ht, hmode, -⟩ := setStepModeAppliesTheMode s m hm
    refine ⟨t, _, ht, rfl, rfl, BitVec.eq_of_toNat_eq ?_⟩
    rw [State.respond_rspData, BitVec.toNat_setWidth_of_le (by decide), hmode]
  case b =>
    intro s p
    obtain ⟨t, ht, hperiod, -⟩ := setStepPeriodStoresHalf s p
    exact ⟨t, _, ht, rfl, rfl, hperiod⟩
  case c =>
    rintro s q rfl hq
    exact ⟨_, _, rfl, rfl, rfl, halfPeriod_two_mul hq⟩
  case cBound =>
    intro s t p h
    cases h
    have := halfPeriod_lt p
    simp only [State.respond_stepPeriod, State.storePeriod_stepPeriod]
    omega
  case d =>
    intro s d hl
    refine ⟨_, _, rfl, rfl, rfl, ?_⟩
    rw [State.readDir_of_loopback (by exact hl)]
    rfl
  case e =>
    intro s
    obtain ⟨t, ht, hmode, -, hrunning, -⟩ := stopReappliesTheMode s
    exact ⟨t, ht, hmode, hrunning⟩
  case f =>
    intro s i hi
    simp only [List.mem_cons, List.not_mem_nil, or_false] at hi
    obtain rfl | rfl | rfl := hi
    · exact ⟨_, _, rfl, s.respond_onlyResponded _ _⟩
    · exact ⟨_, _, rfl, s.afterReadDir_respond_onlyResponded _ _⟩
    · exact ⟨_, _, rfl, s.respond_onlyResponded _ _⟩

end Sys2Proof.Machine

/-! PROOFS. What each command does as a whole: its lines, its flag, its response, and that its events say
so (`10_state.md`, `30_encoding.md`, `70_reset_and_hazards.md`). -/

namespace Sys2Proof.Machine

/-! Lines and flag after a command. -/

/-- The lines each command leaves (R104, R137, R161). -/
def linesAfter (i : Instr) (s : State) : Lines :=
  match i with
  | .init m | .setStepMode m => if modeValid m then cfgLines (lutRead (modeOf m)).pattern else s.lines
  | .stop => cfgLines (lutRead s.stepMode).pattern
  | .runSteps _ d | .runRevolutions _ d =>
    { s.lines with stby := true, dir := d, stck := if pulsesOf i s = 0 then s.lines.stck else false }
  | .setDirection d => s.lines.set .dir d
  | .getStepMode | .getDirection | .setStepPeriod _ | .getStepPeriod => s.lines

/-- The running flag after a command that finds it at `b` (R24, R200). -/
def runningAfter (i : Instr) (b : Level) : Level :=
  match i with
  | .init m => if modeValid m then false else b
  | .stop | .runSteps _ _ | .runRevolutions _ _ => false
  | .setStepMode _ | .getStepMode | .setDirection _ | .getDirection | .setStepPeriod _ | .getStepPeriod => b

/-- Every command leaves these lines and this flag, and does not touch its surroundings. -/
theorem exec_outputs {i : Instr} {s t : State} (h : exec i s = .next t) :
    t.lines = linesAfter i s ∧ t.running = runningAfter i s.running ∧ SameSurroundings s t := by
  cases i with
  | init m | setStepMode m =>
    simp only [exec, execInit, execSetStepMode] at h
    simp only [linesAfter, runningAfter]
    split at h <;> cases h <;> simp [*, SameSurroundings]
  | runSteps count d =>
    obtain ⟨u, hu, -, hlines, hrunning, -, -, -, -, -, -, -, hsame⟩ := runStepsEmitsCountPulses s count d
    cases hu.symm.trans h
    exact ⟨hlines, hrunning, hsame⟩
  | runRevolutions r d =>
    obtain ⟨u, hu, -, hlines, hrunning, -, -, -, -, -, -, -, hsame⟩ := runRevolutionsEmitsTheProduct s r d
    cases hu.symm.trans h
    exact ⟨hlines, hrunning, hsame⟩
  | _ => cases h; simp [linesAfter, runningAfter, SameSurroundings]

theorem exec_lines {i : Instr} {s t : State} (h : exec i s = .next t) : t.lines = linesAfter i s :=
  (exec_outputs h).1

theorem exec_running {i : Instr} {s t : State} (h : exec i s = .next t) :
    t.running = runningAfter i s.running :=
  (exec_outputs h).2.1

theorem exec_surroundings {i : Instr} {s t : State} (h : exec i s = .next t) : SameSurroundings s t :=
  (exec_outputs h).2.2

/-! The events of a command replayed (R10). -/

theorem replayLines_append (a b : List Event) (x : Lines) :
    replayLines (a ++ b) x = replayLines b (replayLines a x) := by
  induction a generalizing x with
  | nil => rfl
  | cons e a ih => cases e <;> exact ih _

theorem replayRunning_append (a b : List Event) (r : Level) :
    replayRunning (a ++ b) r = replayRunning b (replayRunning a r) := by
  induction a generalizing r with
  | nil => rfl
  | cons e a ih => cases e <;> exact ih _

/-- A pulse train leaves STCK low, if it has a pulse. -/
theorem replayLines_trainEvents (n : Nat) (p : Arg) (x : Lines) :
    replayLines (trainEvents n p) x = if n = 0 then x else x.set .stck false := by
  induction n generalizing x with
  | zero => rfl
  | succ n ih =>
    rw [trainEvents, replayLines_append, ih, if_neg (Nat.succ_ne_zero n)]
    split <;> rfl

theorem replayLines_runEvents (n : Nat) (d : Level) (p : Arg) (x : Lines) :
    replayLines (runEvents n d p) x = { x with stby := true, dir := d, stck := if n = 0 then x.stck else false } := by
  rw [runEvents, replayLines_append, replayLines_append, replayLines_trainEvents]
  split <;> rfl

theorem replayRunning_runEvents (n : Nat) (d : Level) (p : Arg) (r : Level) :
    replayRunning (runEvents n d p) r = false := by
  rw [runEvents, replayRunning_append]
  rfl

theorem replayLines_commandEvents (i : Instr) (s : State) :
    replayLines (commandEvents i s) s.lines = linesAfter i s := by
  cases i with
  | init m | setStepMode m => simp only [commandEvents, linesAfter]; split <;> rfl
  | runSteps n d | runRevolutions r d =>
    rw [commandEvents, replayLines_append, replayLines_runEvents]
    rfl
  | _ => rfl

theorem replayRunning_commandEvents (i : Instr) (s : State) :
    replayRunning (commandEvents i s) s.running = runningAfter i s.running := by
  cases i with
  | init m | setStepMode m => simp only [commandEvents, runningAfter]; split <;> rfl
  | runSteps n d | runRevolutions r d =>
    rw [commandEvents, replayRunning_append, replayRunning_runEvents]
    rfl
  | _ => rfl

/-! The response of a command (R82). -/

theorem isResp_of_mem_runEvents (n : Nat) (d : Level) (p : Arg) : ∀ e ∈ runEvents n d p, e.isResp = false := by
  have hpulse : ∀ e ∈ pulseEvents p, e.isResp = false := by simp [pulseEvents, Event.isResp]
  have htrain : ∀ e ∈ trainEvents n p, e.isResp = false :=
    fun e he => hpulse e (mem_pulseEvents_of_mem_trainEvents he)
  simpa [runEvents, Event.isResp, or_imp, forall_and] using htrain

/-- The events of a command end with its one response, which the response registers hold; the block is
idle again. -/
theorem exec_response {i : Instr} {s t : State} (h : exec i s = .next t) : ∃ es,
    commandEvents i s = es ++ [.resp t.rspStatus t.rspData] ∧ (∀ e ∈ es, e.isResp = false) ∧
      t.fsm = .idle ∧ t.rspValid = false := by
  cases i with
  | init m | setStepMode m =>
    simp only [exec, execInit, execSetStepMode] at h
    simp only [commandEvents]
    split at h <;> cases h
    · exact ⟨_, by rw [if_pos ‹_›]; rfl, by simp [cfgEvents, Event.isResp], rfl, rfl⟩
    · exact ⟨[], by rw [if_neg ‹_›]; rfl, by simp, rfl, rfl⟩
  | runSteps n d | runRevolutions r d =>
    cases h
    exact ⟨_, rfl, isResp_of_mem_runEvents _ _ _, rfl, rfl⟩
  | stop =>
    cases h
    exact ⟨cfgEvents (lutRead s.stepMode).pattern ++ [.run false], by simp [commandEvents],
      by simp [cfgEvents, Event.isResp], rfl, rfl⟩
  | setDirection d =>
    cases h
    exact ⟨[.wr .dir d, .wait tDir], rfl, by simp [Event.isResp], rfl, rfl⟩
  | _ => cases h; exact ⟨[], rfl, by simp, rfl, rfl⟩

/-! Which state a command writes (R36). -/

theorem exec_pulseCnt {i : Instr} {s t : State} (hi : i.opcode ∉ [.runSteps, .runRevolutions])
    (h : exec i s = .next t) : t.pulseCnt = s.pulseCnt := by
  cases i with
  | init m | setStepMode m =>
    simp only [exec, execInit, execSetStepMode] at h
    split at h <;> cases h <;> rfl
  | runSteps n d | runRevolutions r d => simp [Instr.opcode] at hi
  | _ => cases h; simp

/-- Settles O25: read off from the registers, the flag and the lines after each command. -/
theorem commandsWriteOnlyTheirState : Obligations.CommandsWriteOnlyTheirState := by
  intro i s t h
  obtain ⟨u, hu, -, hmode, hperiod⟩ := exec_registers i s
  cases hu.symm.trans h
  rw [hmode, hperiod, exec_lines h, exec_running h]
  refine ⟨fun hi => ?mode, fun hi => ?period, fun hi => ?running, fun hi => exec_pulseCnt hi h,
    fun hi => ?stby, fun hi => ?dir, fun hi => ?mode1, exec_surroundings h⟩
  case mode =>
    cases i with
    | init m | setStepMode m => simp [Instr.opcode] at hi
    | _ => rfl
  case period =>
    cases i with
    | init m | setStepPeriod p => simp [Instr.opcode] at hi
    | _ => rfl
  case running =>
    cases i with
    | init m | runSteps n d | runRevolutions r d | stop => simp [Instr.opcode] at hi
    | _ => rfl
  case stby =>
    cases i with
    | init m | setStepMode m | stop | runSteps n d | runRevolutions r d => simp [Instr.opcode] at hi
    | _ => exact ⟨rfl, rfl⟩
  case dir =>
    cases i with
    | init m | setStepMode m | stop | runSteps n d | runRevolutions r d | setDirection d =>
      simp [Instr.opcode] at hi
    | _ => rfl
  case mode1 =>
    cases i with
    | init m | setStepMode m | stop => simp [Instr.opcode] at hi
    | _ => exact ⟨rfl, rfl⟩

/-! What a command does not read (R24, R30). -/

theorem commandEvents_congr (i : Instr) {s s' : State} (hmode : s'.stepMode = s.stepMode)
    (hperiod : s'.stepPeriod = s.stepPeriod) (hlines : s'.lines = s.lines) (hparams : s'.params = s.params)
    (hdraws : s'.padDraws = s.padDraws) : commandEvents i s' = commandEvents i s := by
  cases i <;>
    simp only [commandEvents, pulsesOf, State.readDir, hmode, hperiod, hlines, hparams, hdraws]

/-- These commands clear the flag unless they are rejected. -/
theorem exec_running_of_ok {i : Instr} {s t : State} (hi : i.opcode ∈ [.init, .runSteps, .runRevolutions, .stop])
    (h : exec i s = .next t) (hok : t.rspStatus = statusOk) : t.running = false := by
  rw [exec_running h]
  cases i with
  | init m =>
    by_cases hm : m.toNat ≤ 8
    · exact if_pos ((modeValid_iff m).mpr hm)
    · cases (exec_init_of_invalid s (Nat.lt_of_not_le hm)).symm.trans h
      exact absurd hok (by decide : statusInvalidMode ≠ statusOk)
  | runSteps n d | runRevolutions r d | stop => rfl
  | _ => simp [Instr.opcode] at hi

/-- Settles O27: the events depend on nothing else, and lines and response are in the events. -/
theorem commandsDoNotReadHiddenState : Obligations.CommandsDoNotReadHiddenState := by
  intro i s t s' t' h h' hmode hperiod hlines hparams hdraws
  have hev : commandEvents i s' = commandEvents i s := commandEvents_congr i hmode hperiod hlines hparams hdraws
  obtain ⟨u, hu, -, hmode_t, hperiod_t⟩ := exec_registers i s
  obtain ⟨u', hu', -, hmode_t', hperiod_t'⟩ := exec_registers i s'
  cases hu.symm.trans h
  cases hu'.symm.trans h'
  obtain ⟨es, hes, -⟩ := exec_response h
  obtain ⟨es', hes', -⟩ := exec_response h'
  have hlast := (List.append_inj' ((hes'.symm.trans hev).trans hes) rfl).2
  simp only [List.cons.injEq, Event.resp.injEq, and_true] at hlast
  obtain ⟨hstatus, hdata⟩ := hlast
  refine ⟨?_, ?_, ?_, hstatus, hdata, ?_, _, exec_events h, hev ▸ exec_events h'⟩
  · rw [hmode_t', hmode_t, hmode]
  · rw [hperiod_t', hperiod_t, hperiod, hparams]
  · rw [exec_lines h', exec_lines h, ← replayLines_commandEvents, ← replayLines_commandEvents, hev, hlines]
  · intro hi hok
    rw [exec_running_of_ok hi h hok, exec_running_of_ok hi h' (hstatus.trans hok)]

/-! Edges of STCK (R236). -/

/-- From STCK low, every pulse makes one edge of each kind and leaves it low again. -/
theorem edges_trainEvents (n : Nat) (p : Arg) (rest : List Event) :
    risingEdges (trainEvents n p ++ rest) false = n + risingEdges rest false ∧
      fallingEdges (trainEvents n p ++ rest) false = n + fallingEdges rest false := by
  induction n with
  | zero => simp [trainEvents]
  | succ n ih =>
    obtain ⟨hrise, hfall⟩ := ih
    simp [trainEvents, pulseEvents, risingEdges, fallingEdges, hrise, hfall]
    omega

/-- From STCK high, the first write of the first pulse is no edge. -/
theorem edges_runEvents {n : Nat} (hn : 1 ≤ n) (d : Level) (p : Arg) (st : BitVec 2) (data : Arg) (l : Level) :
    fallingEdges (runEvents n d p ++ [.resp st data]) l = n ∧
      risingEdges (runEvents n d p ++ [.resp st data]) l = if l = true then n - 1 else n := by
  obtain ⟨n, rfl⟩ := Nat.exists_eq_add_of_le' hn
  obtain ⟨hrise, hfall⟩ := edges_trainEvents n p [.run false, .resp st data]
  cases l <;> simp [runEvents, trainEvents, pulseEvents, risingEdges, fallingEdges, hrise, hfall] <;> omega

/-- Bit 3 of the pattern drives STCK: it is 1 for modes 1, 3 and 4. -/
theorem lutRead_stck (a : Mode) : (lutRead a).pattern.getLsbD 3 = decide (a.toNat ∈ [1, 3, 4]) := by
  revert a; decide

theorem linesAfter_stck (i : Instr) (s : State) : (linesAfter i s).stck = stckAfter i s := by
  cases i with
  | init m | setStepMode m =>
    simp only [linesAfter, stckAfter]
    by_cases hm : m.toNat ≤ 8
    · have hv : modeValid m = true := (modeValid_iff m).mpr hm
      rw [if_pos hv, if_pos hm, ← modeOf_toNat hv]
      exact lutRead_stck _
    · rw [if_neg ((modeValid_iff m).not.mpr hm), if_neg hm]
  | stop => exact lutRead_stck _
  | _ => rfl

/-- Settles O29: the edges are counted in the events of a run; the level is that of the lines. -/
theorem risingEdgesOfARun : Obligations.RisingEdgesOfARun := by
  refine ⟨fun i s t hi hn h => ?_, fun i s t h => ?_, fun s hr => ?_⟩
  · obtain ⟨n, hpulses, hexec⟩ := exec_of_isRun hi s
    cases hexec.symm.trans h
    rw [← hpulses] at hn ⊢
    exact ⟨_, State.runPulses_events s n i.dir, edges_runEvents hn i.dir s.stepPeriod statusOk 0 s.lines.stck⟩
  · rw [exec_lines h, linesAfter_stck]
  · rw [State.cycle_eq_resetEdge hr]
    rfl

end Sys2Proof.Machine

/-! PROOFS. One step of the machine: the word on the port run whole, the errors, the refusal, the word the
host places (`00_scope.md` rule R12, `60_exceptions.md`). -/

namespace Sys2Proof.Machine

/-! The word on the port. -/

theorem runWord_of_ok {w : CmdWord} {i : Instr} (hd : decode w = .ok i) (s : State) :
    runWord w s = exec i (s.accept w) := by
  simp only [runWord, hd]

theorem runWord_of_error {w : CmdWord} {r : Reject} (hd : decode w = .error r) (s : State) :
    runWord w s = .next ((s.accept w).raise statusIllegalCmd) := by
  simp only [runWord, hd]

/-- Every word is answered (R213, R214). -/
theorem runWord_completes (w : CmdWord) (s : State) : ∃ t, runWord w s = .next t := by
  cases hd : decode w with
  | ok i =>
    obtain ⟨t, ht, -⟩ := exec_registers i (s.accept w)
    exact ⟨t, (runWord_of_ok hd s).trans ht⟩
  | error r => exact ⟨_, runWord_of_error hd s⟩

/-! The shape of each step. -/

theorem step_of_rst_false {s : State} (hr : s.rst = false) (hs : s.rspStatus ≠ statusReserved) :
    step s = runStep s := by
  rw [step, stepBody, if_neg (by simp [hr]), if_neg hs]

theorem runStep_of_idle {s : State} (hf : s.fsm = .idle) (hq : s.commands = []) : runStep s = .next s := by
  simp only [runStep, hf, hq]

theorem runStep_of_presented {s : State} {w : CmdWord} {q : List CmdWord} (hf : s.fsm = .idle)
    (hq : s.commands = w :: q) : runStep s = runWord w s := by
  simp only [runStep, hf, hq]

theorem runStep_of_busy {s : State} (hf : s.fsm ≠ .idle) : runStep s = .next s.cycle := by
  unfold runStep
  split
  · exact absurd ‹_› hf
  all_goals rfl

theorem runStep_completes (s : State) : ∃ t, runStep s = .next t := by
  by_cases hf : s.fsm = .idle
  · cases hq : s.commands with
    | nil => exact ⟨s, runStep_of_idle hf hq⟩
    | cons w q => simpa only [runStep_of_presented hf hq] using runWord_completes w s
  · exact ⟨_, runStep_of_busy hf⟩

/-- With `rst = 0`, an idle block and a word on the port, a step is that word run whole. -/
theorem step_of_presented {s : State} {w : CmdWord} {q : List CmdWord} (hr : s.rst = false)
    (hs : s.rspStatus ≠ statusReserved) (hf : s.fsm = .idle) (hq : s.commands = w :: q) :
    step s = runWord w s :=
  (step_of_rst_false hr hs).trans (runStep_of_presented hf hq)

/-- Settles O35: the accepted state is the one with the word in `cmd_q` and off the port. -/
theorem stepRunsThePresentedCommand : Obligations.StepRunsThePresentedCommand := by
  intro s w q hr hs hf hq
  have haccept : s.accept w = { s with cmdQ := w, commands := q } := by rw [State.accept, hq, List.tail_cons]
  rw [step_of_presented hr hs hf hq, ← haccept]
  exact ⟨fun i hd => runWord_of_ok hd s, fun r hd => runWord_of_error hd s⟩

/-- Settles O36: reset first, then the two cases of an idle and a busy block. -/
theorem stepWithoutACommandOrMidCommand : Obligations.StepWithoutACommandOrMidCommand := by
  refine ⟨fun s => step_eq_resetEdge, fun s hr hs => ?_⟩
  rw [step_of_rst_false hr hs]
  exact ⟨runStep_of_idle, runStep_of_busy⟩

/-- Settles O37: a reset edge and every step that is not stopped by the reserved status answer a state. -/
theorem stepRefusesOnlyReservedStatus : Obligations.StepRefusesOnlyReservedStatus := by
  intro s
  constructor
  · rintro ⟨r, h⟩
    cases hr : s.rst with
    | true => cases (step_eq_resetEdge hr).symm.trans h
    | false =>
      refine ⟨rfl, by_contra fun hs => ?_⟩
      obtain ⟨t, ht⟩ := runStep_completes s
      cases ((step_of_rst_false hr hs).trans ht).symm.trans h
  · rintro ⟨hr, hs⟩
    exact ⟨.reservedStatus, by rw [step, stepBody, if_neg (by simp [hr]), if_pos hs]⟩

/-- Settles O38: the placed word is on the port of an idle block, and it is the word of its command. -/
theorem placedWordRunsNext : Obligations.PlacedWordRunsNext := by
  intro s nbits w i h
  have hd : decode (tableWord nbits w) = .ok i := by
    unfold decodeTableWord at h
    split at h
    · cases hdec : decode (tableWord nbits w) with
      | ok j => rw [hdec] at h; cases h; rfl
      | error r => rw [hdec] at h; cases h
    · cases h
  have hs : (s.withFetchWord nbits w).rspStatus ≠ statusReserved := by
    simp only [State.withFetchWord, State.presentNow]
    split
    · decide
    · assumption
  rw [step_of_presented rfl hs rfl rfl, runWord_of_ok hd, decode_eq_ok_iff.mp hd]

/-! Errors (R200, R203). -/

/-- A mode above 8 is answered `INVALID_MODE`, by either command that takes one. -/
theorem runWord_of_invalid_mode {w : CmdWord} {m : Arg} (hm : 8 < m.toNat)
    (hd : decode w = .ok (.init m) ∨ decode w = .ok (.setStepMode m)) (s : State) :
    runWord w s = .next ((s.accept w).raise statusInvalidMode) := by
  obtain hd | hd := hd
  · rw [runWord_of_ok hd, exec_init_of_invalid _ hm]
  · rw [runWord_of_ok hd, exec_setStepMode_of_invalid _ hm]

/-- Settles O22: either error is `raise` on the accepted state. -/
theorem errorsOnlyRespond : Obligations.ErrorsOnlyRespond := by
  intro s w q hr hs hf hq
  rw [step_of_presented hr hs hf hq]
  exact ⟨fun r hd => ⟨_, runWord_of_error hd s, (s.accept w).respond_onlyResponded _ _, rfl⟩,
    fun m hm hd => ⟨_, runWord_of_invalid_mode hm hd s, (s.accept w).respond_onlyResponded _ _, rfl⟩⟩

/-- Settles O23: reset comes first, and a word is either decoded or not. -/
theorem errorPriority : Obligations.ErrorPriority := by
  refine ⟨fun s hr => ⟨step_eq_resetEdge hr, State.cycle_eq_resetEdge hr⟩, fun s w q hr hs hf hq => ?_⟩
  have illegal {r : Reject} (hd : decode w = .error r) :
      ∃ t, runWord w s = .next t ∧ t.rspStatus = statusIllegalCmd :=
    ⟨_, runWord_of_error hd s, rfl⟩
  rw [step_of_presented hr hs hf hq]
  refine ⟨fun r => illegal, fun m hm hd => ⟨_, runWord_of_invalid_mode hm hd s, rfl⟩, ?_⟩
  rintro rfl
  exact illegal (r := .reservedBits) (by decide)

end Sys2Proof.Machine

/-! PROOFS. One clock cycle of the reference realisation: what it can do, said once, and the statements about
single cycles (`10_state.md`, `20_memory.md`, `30_encoding.md`). -/

namespace Sys2Proof.Machine

/-! What a cycle can do (R240). -/

/-- How the sequencer moves on without driving a line or the flag: to another place of a command or within
a wait, past the end of a wait, or from there into the Respond cycle. -/
inductive State.MovesOn (s : State) : State → Prop
  | goto (f : Fsm) (presc : Nat) (units : Arg) (hidle : f ≠ .idle) (hrespond : f ≠ .respond) :
      MovesOn s { s with fsm := f, presc := presc, unitCnt := units }
  | endWait (n : Arg) (f : Fsm) (hidle : f ≠ .idle) (hrespond : f ≠ .respond) : MovesOn s ((s.wait n).goto f)
  | respond (n : Arg) : MovesOn s ((s.wait n).enterRespond statusOk 0)

theorem State.nextPulse_eq_goto (s : State) : ∃ f, f ≠ .idle ∧ f ≠ .respond ∧ s.nextPulse = s.goto f := by
  unfold State.nextPulse
  split <;> exact ⟨_, by simp, by simp, rfl⟩

theorem State.nextPulse_movesOn (s : State) : s.MovesOn s.nextPulse := by
  obtain ⟨f, hidle, hrespond, hf⟩ := s.nextPulse_eq_goto
  rw [hf]
  exact .goto f s.presc s.unitCnt hidle hrespond

theorem State.endWait_movesOn (s : State) (k : WaitStep) : s.MovesOn (s.endWait k) := by
  unfold State.endWait
  cases k with
  | latch =>
    simp only [State.afterWait]
    split
    · exact .endWait _ _ (by simp) (by simp)
    · exact .respond _
  | low =>
    obtain ⟨f, hidle, hrespond, hf⟩ := (s.wait (s.waitUnits .low)).nextPulse_eq_goto
    rw [State.afterWait, hf]
    exact .endWait _ f hidle hrespond
  | dir => exact .respond _
  | settle | wake | high => exact .endWait _ _ (by simp) (by simp)

theorem State.startWait_movesOn (s : State) (k : WaitStep) : s.MovesOn (s.startWait k) := by
  unfold State.startWait
  split
  · exact s.endWait_movesOn k
  · exact .goto _ _ _ (by simp) (by simp)

theorem State.waitCycle_movesOn {s : State} {k : WaitStep} (hf : s.fsm = .wait k) : s.MovesOn (s.waitCycle k) := by
  have within (presc : Nat) (units : Arg) : s.MovesOn { s with presc := presc, unitCnt := units } := by
    have h := State.MovesOn.goto (s := s) s.fsm presc units (by simp [hf]) (by simp [hf])
    exact h
  unfold State.waitCycle
  split
  · exact within _ _
  · split
    · exact s.endWait_movesOn k
    · exact within _ _

/-- A line write drives one line, may count a pulse, and moves on. -/
theorem State.lineCycle_movesOn (s : State) (k : LineStep) : ∃ (l : Line) (b : Level) (n : PulseCount),
    ((s.setLine l b).loadPulses n).MovesOn (s.lineCycle k) := by
  have writes (l : Line) (b : Level) {t : State} (h : (s.setLine l b).MovesOn t) :
      ∃ (l : Line) (b : Level) (n : PulseCount), ((s.setLine l b).loadPulses n).MovesOn t := ⟨l, b, s.pulseCnt, h⟩
  cases k with
  | cfgStby | cfgMode2 | runStby | pulseHigh | setDir => exact writes _ _ (State.startWait_movesOn _ _)
  | cfgStck | cfgDir | cfgMode1 => exact writes _ _ (.goto _ _ _ (by simp) (by simp))
  | runDir => exact writes _ _ (State.nextPulse_movesOn _)
  | pulseLow => exact ⟨_, _, s.pulseCnt - 1, State.startWait_movesOn (s.setLine .stck false).countPulse .low⟩

/-- What a cycle without reset can lead to, by the place of the command it is in. -/
inductive State.CyclesTo (s : State) : State → Prop
  | idle (hf : s.fsm = .idle) (hq : s.commands = []) : CyclesTo s s
  | accept (w : CmdWord) (q : List CmdWord) (hf : s.fsm = .idle) (hq : s.commands = w :: q) :
      CyclesTo s (s.acceptEdge w)
  | line (k : LineStep) (l : Line) (b : Level) (n : PulseCount) (t : State) (hf : s.fsm = .line k)
      (h : ((s.setLine l b).loadPulses n).MovesOn t) : CyclesTo s t
  | wait (k : WaitStep) (t : State) (hf : s.fsm = .wait k) (h : s.MovesOn t) : CyclesTo s t
  | clearRunning (hf : s.fsm = .clearRunning) : CyclesTo s ((s.setRunning false).enterRespond statusOk 0)
  | respond (hf : s.fsm = .respond) : CyclesTo s s.finishRespond

theorem State.cycle_of_idle {s : State} (hr : s.rst = false) (hf : s.fsm = .idle) (hq : s.commands = []) :
    s.cycle = s := by
  simp [State.cycle, hr, hf, hq]

theorem State.cyclesTo_cycle {s : State} (hr : s.rst = false) : s.CyclesTo s.cycle := by
  cases hf : s.fsm with
  | idle =>
    cases hq : s.commands with
    | nil =>
      rw [State.cycle_of_idle hr hf hq]
      exact .idle hf hq
    | cons w q =>
      rw [State.cycle_accept hr hf hq]
      exact .accept w q hf hq
  | line k =>
    obtain ⟨l, b, n, h⟩ := s.lineCycle_movesOn k
    rw [State.cycle_line hr hf]
    exact .line k l b n _ hf h
  | wait k =>
    rw [State.cycle_wait hr hf]
    exact .wait k _ hf (State.waitCycle_movesOn hf)
  | clearRunning =>
    rw [State.cycle_clearRunning hr hf]
    exact .clearRunning hf
  | respond =>
    rw [State.cycle_respond hr hf]
    exact .respond hf

/-! What moving on leaves unchanged. -/

section
variable {s t : State} (h : s.MovesOn t)
include h

theorem State.MovesOn.lines : t.lines = s.lines := by cases h <;> rfl

theorem State.MovesOn.running : t.running = s.running := by cases h <;> rfl

theorem State.MovesOn.surroundings : SameSurroundings s t := by cases h <;> exact ⟨rfl, rfl, rfl, rfl⟩

theorem State.MovesOn.fsm_ne_idle : t.fsm ≠ .idle := by
  cases h with
  | goto f p u hidle _ => exact hidle
  | endWait n f hidle _ => exact hidle
  | respond n => simp

/-- The only event is that of a wait that has passed. -/
theorem State.MovesOn.events : ∃ es, t.events = s.events ++ es ∧ (es = [] ∨ ∃ n, es = [.wait n]) := by
  cases h with
  | goto => exact ⟨[], (List.append_nil _).symm, .inl rfl⟩
  | endWait n => exact ⟨_, State.wait_events s n, .inr ⟨n, rfl⟩⟩
  | respond n => exact ⟨_, State.wait_events s n, .inr ⟨n, rfl⟩⟩

/-- The response registers are written only on the way into the Respond cycle. -/
theorem State.MovesOn.response (hf : t.fsm ≠ .respond) : t.rspStatus = s.rspStatus ∧ t.rspData = s.rspData := by
  cases h with
  | respond n => exact absurd rfl hf
  | _ => exact ⟨rfl, rfl⟩

theorem State.MovesOn.rspValid (hv : s.rspValid = false) : t.rspValid = decide (t.fsm = .respond) := by
  cases h with
  | goto f p u _ hrespond => exact hv.trans (decide_eq_false hrespond).symm
  | endWait n f _ hrespond => exact hv.trans (decide_eq_false hrespond).symm
  | respond n => rfl

end

/-! What the acceptance edge can do (R240). -/

/-- From `s` to `u` registers were written before the first line write or wait, with the events `es`: none, or
that of a flag write. -/
structure State.RegistersWritten (s u : State) (es : List Event) : Prop where
  oneFlag : es = [] ∨ ∃ b, es = [.run b]
  events : u.events = s.events ++ es
  running : u.running = replayRunning es s.running
  lines : u.lines = s.lines
  status : u.rspStatus = s.rspStatus
  data : u.rspData = s.rspData
  valid : u.rspValid = s.rspValid
  surroundings : SameSurroundings s u

theorem State.RegistersWritten.refl (s : State) : s.RegistersWritten s [] :=
  ⟨.inl rfl, (List.append_nil _).symm, rfl, rfl, rfl, rfl, rfl, rfl, rfl, rfl, rfl⟩

/-- Any write of the mode, the period, the pulse counter and the draws is one of registers. -/
theorem State.RegistersWritten.of_registers (s : State) (m : Mode) (p : Arg) (n : PulseCount) (k : Nat) :
    s.RegistersWritten { s with stepMode := m, stepPeriod := p, pulseCnt := n, padDraws := k } [] :=
  ⟨.inl rfl, (List.append_nil _).symm, rfl, rfl, rfl, rfl, rfl, rfl, rfl, rfl, rfl⟩

/-- And so is such a write together with one of the flag. -/
theorem State.RegistersWritten.of_flag (s : State) (b : Level) (m : Mode) (p : Arg) (n : PulseCount) :
    s.RegistersWritten (State.setRunning b { s with stepMode := m, stepPeriod := p, pulseCnt := n }) [.run b] :=
  ⟨.inr ⟨b, rfl⟩, State.setRunning_events _ b, rfl, rfl, rfl, rfl, rfl, rfl, rfl, rfl, rfl⟩

theorem State.afterReadDir_eq (s : State) : ∃ k, s.afterReadDir = { s with padDraws := k } := by
  unfold State.afterReadDir
  split
  · exact ⟨s.padDraws, rfl⟩
  · exact ⟨_, rfl⟩

/-- A command begins with register writes, and then goes to its first line write or into its Respond cycle. -/
theorem State.begin_cases (i : Instr) (s : State) : ∃ u es, s.RegistersWritten u es ∧
    ((∃ k, s.begin i = u.goto (.line k)) ∨ ∃ st d, s.begin i = u.enterRespond st d) := by
  cases i with
  | init m =>
    simp only [State.begin]
    split
    · exact ⟨_, _, .of_flag s false (modeOf m) s.params.defaultStepPeriod s.pulseCnt, .inl ⟨_, rfl⟩⟩
    · exact ⟨s, _, .refl s, .inr ⟨_, _, rfl⟩⟩
  | setStepMode m =>
    simp only [State.begin]
    split
    · exact ⟨_, _, .of_registers s (modeOf m) s.stepPeriod s.pulseCnt s.padDraws, .inl ⟨_, rfl⟩⟩
    · exact ⟨s, _, .refl s, .inr ⟨_, _, rfl⟩⟩
  | runSteps n d => exact ⟨_, _, .of_flag s true s.stepMode s.stepPeriod (stepTotal n), .inl ⟨_, rfl⟩⟩
  | runRevolutions r d =>
    exact ⟨_, _, .of_flag s true s.stepMode s.stepPeriod (revTotal r s.stepMode), .inl ⟨_, rfl⟩⟩
  | stop | setDirection d => exact ⟨s, _, .refl s, .inl ⟨_, rfl⟩⟩
  | getStepMode | getStepPeriod => exact ⟨s, _, .refl s, .inr ⟨_, _, rfl⟩⟩
  | setStepPeriod p =>
    exact ⟨_, _, .of_registers s s.stepMode (halfPeriod p) s.pulseCnt s.padDraws, .inr ⟨_, _, rfl⟩⟩
  | getDirection =>
    obtain ⟨k, hk⟩ := s.afterReadDir_eq
    rw [State.begin, hk]
    exact ⟨_, _, .of_registers s s.stepMode s.stepPeriod s.pulseCnt k, .inr ⟨_, _, rfl⟩⟩

/-- So does an accepted word, a rejected one with no register write. -/
theorem State.acceptEdge_cases (w : CmdWord) (s : State) : ∃ u es, (s.accept w).RegistersWritten u es ∧
    ((∃ k, s.acceptEdge w = u.goto (.line k)) ∨ ∃ st d, s.acceptEdge w = u.enterRespond st d) := by
  unfold State.acceptEdge
  split
  · exact State.begin_cases _ _
  · exact ⟨_, _, .refl _, .inr ⟨_, _, rfl⟩⟩

theorem State.acceptEdge_fsm_ne_idle (w : CmdWord) (s : State) : (s.acceptEdge w).fsm ≠ .idle := by
  obtain ⟨u, es, -, ⟨k, h⟩ | ⟨st, d, h⟩⟩ := State.acceptEdge_cases w s <;> simp [h]

/-- The acceptance edge drives no line; the flag follows its events. -/
theorem State.acceptEdge_events (w : CmdWord) (s : State) : ∃ es, (es = [] ∨ ∃ b, es = [.run b]) ∧
    (s.acceptEdge w).events = s.events ++ es ∧ (s.acceptEdge w).running = replayRunning es s.running ∧
      (s.acceptEdge w).lines = s.lines := by
  obtain ⟨u, es, hu, ⟨k, h⟩ | ⟨st, d, h⟩⟩ := State.acceptEdge_cases w s
  all_goals
    rw [h]
    exact ⟨es, hu.oneFlag, hu.events, hu.running, hu.lines⟩

/-! Statements about single cycles. -/

/-- The event of a wait changes nothing that is replayed. -/
theorem State.MovesOn.replay {s t : State} (h : s.MovesOn t) : ∃ es, t.events = s.events ++ es ∧
    t.lines = replayLines es s.lines ∧ t.running = replayRunning es s.running := by
  obtain ⟨es, hevents, hes⟩ := h.events
  refine ⟨es, hevents, ?_, ?_⟩
  · rw [h.lines]
    obtain rfl | ⟨n, rfl⟩ := hes <;> rfl
  · rw [h.running]
    obtain rfl | ⟨n, rfl⟩ := hes <;> rfl

/-- The events of a cycle without reset, replayed, are what it does to the latches and the flag. -/
theorem State.CyclesTo.replay {s t : State} (h : s.CyclesTo t) : ∃ es, t.events = s.events ++ es ∧
    t.lines = replayLines es s.lines ∧ t.running = replayRunning es s.running := by
  cases h with
  | idle => exact ⟨[], (List.append_nil _).symm, rfl, rfl⟩
  | accept w =>
    obtain ⟨es, hes, hevents, hrunning, hlines⟩ := s.acceptEdge_events w
    refine ⟨es, hevents, ?_, hrunning⟩
    rw [hlines]
    obtain rfl | ⟨b, rfl⟩ := hes <;> rfl
  | line k l b n t _ h =>
    obtain ⟨es, hevents, hlines, hrunning⟩ := h.replay
    exact ⟨.wr l b :: es, by simp [hevents], hlines, hrunning⟩
  | wait k t _ h => exact h.replay
  | clearRunning => exact ⟨[.run false], State.setRunning_events s false, rfl, rfl⟩
  | respond => exact ⟨_, s.finishRespond_events, rfl, rfl⟩

/-- Settles O26: a command's events replay to its lines and flag, and so do a cycle's. -/
theorem latchesFollowTheTrace : Obligations.LatchesFollowTheTrace := by
  refine ⟨fun i s t h => ⟨_, exec_events h, ?_, ?_⟩, fun s hr => (State.cyclesTo_cycle hr).replay⟩
  · rw [exec_lines h, replayLines_commandEvents]
  · rw [exec_running h, replayRunning_commandEvents]

/-- The response registers change only at an edge into the Respond cycle. -/
theorem State.CyclesTo.response {s t : State} (h : s.CyclesTo t) (hf : t.fsm ≠ .respond) :
    t.rspStatus = s.rspStatus ∧ t.rspData = s.rspData := by
  cases h with
  | idle | respond => exact ⟨rfl, rfl⟩
  | accept w =>
    obtain ⟨u, es, hu, ⟨k, h⟩ | ⟨st, d, h⟩⟩ := State.acceptEdge_cases w s
    · rw [h]
      exact ⟨hu.status, hu.data⟩
    · exact absurd (congrArg State.fsm h) hf
  | line k l b n t _ h => exact h.response hf
  | wait k t _ h => exact h.response hf
  | clearRunning => exact absurd rfl hf

/-- A word that is run whole adds events without a response and then its one response, which the response
registers hold. -/
theorem runWord_response {w : CmdWord} {s t : State} (h : runWord w s = .next t) : ∃ es st d,
    t.events = s.events ++ (es ++ [.resp st d]) ∧ (∀ e ∈ es, e.isResp = false) ∧ Responded st d t := by
  obtain ⟨i, -, hi⟩ | ⟨r, -, rfl⟩ := runWord_cases h
  · obtain ⟨es, hes, hnone, hidle, hvalid⟩ := exec_response hi
    exact ⟨es, _, _, (exec_events hi).trans (by rw [hes, State.accept_events]), hnone, rfl, rfl, hidle, hvalid⟩
  · exact ⟨[], _, _, State.respond_events _ _ _, by simp, rfl, rfl, rfl, rfl⟩

/-- Settles O24: the Respond cycle, then commands, words and single cycles. -/
theorem everyCommandRespondsOnceAndLast : Obligations.EveryCommandRespondsOnceAndLast := by
  refine ⟨fun s st d hr => ?_, fun i s t h => ?_, fun w s t => runWord_response,
    fun s hr => (State.cyclesTo_cycle hr).response⟩
  · rw [State.cycle_respond (s := s.enterRespond st d) hr rfl]
    exact ⟨rfl, rfl, rfl, rfl, s.respond_events st d⟩
  · obtain ⟨es, hes, hnone, hidle, hvalid⟩ := exec_response h
    exact ⟨es, _, _, hes ▸ exec_events h, hnone, rfl, rfl, hidle, hvalid⟩

/-- A line write drives its line, and no other cycle without reset drives any. -/
theorem State.CyclesTo.one_line {s t : State} (h : s.CyclesTo t) :
    ∃ l, ∀ l', l' ≠ l → t.lines.get l' = s.lines.get l' := by
  have quiet {t : State} (h : t.lines = s.lines) : ∃ l, ∀ l', l' ≠ l → t.lines.get l' = s.lines.get l' :=
    ⟨.stby, fun l' _ => by rw [h]⟩
  cases h with
  | idle | clearRunning | respond => exact quiet rfl
  | accept w =>
    obtain ⟨-, -, -, -, hlines⟩ := s.acceptEdge_events w
    exact quiet hlines
  | line k l b n t _ h =>
    refine ⟨l, fun l' hl => ?_⟩
    rw [h.lines, State.loadPulses_lines, State.setLine_lines, Lines.get_set, if_neg hl]
  | wait k t _ h => exact quiet h.lines

/-- Settles O46: every cycle without reset has a line to which its writes are confined. -/
theorem atMostOneLatchPerCycle : Obligations.AtMostOneLatchPerCycle :=
  fun _ hr => (State.cyclesTo_cycle hr).one_line

/-! The handshake (R71). -/

theorem State.cmdReady_iff (s : State) : s.cmdReady = true ↔ s.fsm = .idle ∧ s.rst = false := by
  simp [State.cmdReady]

/-- A busy block leaves its surroundings alone. -/
theorem State.CyclesTo.surroundings {s t : State} (h : s.CyclesTo t) (hf : s.fsm ≠ .idle) :
    SameSurroundings s t := by
  cases h with
  | idle hi | accept w q hi => exact absurd hi hf
  | line k l b n t _ h => exact h.surroundings
  | wait k t _ h => exact h.surroundings
  | clearRunning | respond => exact ⟨rfl, rfl, rfl, rfl⟩

theorem State.cycle_surroundings {s : State} (hr : s.rst = false) (hf : s.fsm ≠ .idle) :
    SameSurroundings s s.cycle := (State.cyclesTo_cycle hr).surroundings hf

/-- Settles O45: a ready block is idle, so its cycle is an acceptance edge or does nothing; a block that is
not ready is in reset or busy. -/
theorem handshakeTakesOneWord : Obligations.HandshakeTakesOneWord := by
  refine fun s => ⟨fun w q hready hq => ?taken, fun hready hvalid => ?nothing, fun hready => ?held⟩
  case taken =>
    obtain ⟨hf, hr⟩ := s.cmdReady_iff.mp hready
    obtain ⟨hword, hrest⟩ := State.acceptEdge_port w s
    rw [State.cycle_accept hr hf hq]
    refine ⟨hword, by rw [hrest, hq, List.tail_cons], ?_⟩
    rw [State.cmdReady, decide_eq_false (s.acceptEdge_fsm_ne_idle w), Bool.false_and]
  case nothing =>
    obtain ⟨hf, hr⟩ := s.cmdReady_iff.mp hready
    have hq : s.commands = [] := by simpa [State.cmdValid] using hvalid
    exact State.cycle_of_idle hr hf hq
  case held =>
    cases hr : s.rst with
    | true => rw [State.cycle_eq_resetEdge hr]; rfl
    | false =>
      have hf : s.fsm ≠ .idle := fun hf => by simp [s.cmdReady_iff.mpr ⟨hf, hr⟩] at hready
      obtain ⟨-, -, hcommands, -⟩ := State.cycle_surroundings hr hf
      exact hcommands

/-! What is presented does not matter to a busy block (R61, R238). -/

section
variable (s : State) (q : List CmdWord)

@[simp] theorem State.withCommands_setLine (l : Line) (b : Level) :
    (s.withCommands q).setLine l b = (s.setLine l b).withCommands q := rfl
@[simp] theorem State.withCommands_countPulse : (s.withCommands q).countPulse = s.countPulse.withCommands q := rfl
@[simp] theorem State.withCommands_goto (f : Fsm) : (s.withCommands q).goto f = (s.goto f).withCommands q := rfl
@[simp] theorem State.withCommands_pattern : (s.withCommands q).pattern = s.pattern := rfl
@[simp] theorem State.withCommands_operandDir : (s.withCommands q).operandDir = s.operandDir := rfl

@[simp] theorem State.withCommands_nextPulse : (s.withCommands q).nextPulse = s.nextPulse.withCommands q := by
  rw [State.nextPulse, State.nextPulse, apply_ite (State.withCommands q)]
  rfl

theorem State.withCommands_afterWait (k : WaitStep) :
    (s.withCommands q).afterWait k = (s.afterWait k).withCommands q := by
  cases k with
  | latch => simp only [State.afterWait, apply_ite (State.withCommands q)]; rfl
  | low => exact s.withCommands_nextPulse q
  | _ => rfl

theorem State.withCommands_endWait (k : WaitStep) : (s.withCommands q).endWait k = (s.endWait k).withCommands q :=
  State.withCommands_afterWait (s.wait (s.waitUnits k)) q k

@[simp] theorem State.withCommands_startWait (k : WaitStep) :
    (s.withCommands q).startWait k = (s.startWait k).withCommands q := by
  rw [State.startWait, State.startWait, apply_ite (State.withCommands q), ← State.withCommands_endWait]
  rfl

theorem State.withCommands_waitCycle (k : WaitStep) :
    (s.withCommands q).waitCycle k = (s.waitCycle k).withCommands q := by
  rw [State.waitCycle, State.waitCycle, apply_ite (State.withCommands q), apply_ite (State.withCommands q),
    ← State.withCommands_endWait]
  rfl

theorem State.withCommands_lineCycle (k : LineStep) :
    (s.withCommands q).lineCycle k = (s.lineCycle k).withCommands q := by
  cases k <;> simp [State.lineCycle]

end

theorem State.withCommands_cycle {s : State} (q : List CmdWord) (hr : s.rst = false) (hf : s.fsm ≠ .idle) :
    (s.withCommands q).cycle = s.cycle.withCommands q := by
  cases h : s.fsm with
  | idle => exact absurd h hf
  | line k => rw [State.cycle_line hr h, State.cycle_line (s := s.withCommands q) hr h, State.withCommands_lineCycle]
  | wait k => rw [State.cycle_wait hr h, State.cycle_wait (s := s.withCommands q) hr h, State.withCommands_waitCycle]
  | clearRunning => rw [State.cycle_clearRunning hr h, State.cycle_clearRunning (s := s.withCommands q) hr h]; rfl
  | respond => rw [State.cycle_respond hr h, State.cycle_respond (s := s.withCommands q) hr h]; rfl

/-- Settles O47: by induction on the cycles, each of them in a busy block. -/
theorem presentedWordsDoNotDisturb : Obligations.PresentedWordsDoNotDisturb := by
  intro s q k
  induction k generalizing s with
  | zero => exact fun _ _ => rfl
  | succ k ih =>
    intro hr hbusy
    have hf : s.fsm ≠ .idle := hbusy 0 (Nat.succ_pos k)
    obtain ⟨-, hrst, -⟩ := State.cycle_surroundings hr hf
    rw [State.cycles, State.withCommands_cycle q hr hf]
    exact ih s.cycle (hrst.trans hr) fun j hj => hbusy (j + 1) (Nat.succ_lt_succ hj)

end Sys2Proof.Machine

/-! PROOFS. The reference realisation runs a whole command: it takes the cycles of R240's table, is busy for
exactly these, and reaches the state of the untimed command (`70_reset_and_hazards.md`). -/

namespace Sys2Proof.Machine

/-! The command in `cmd_q` (R71). -/

theorem State.isStop_of_decode {s : State} {i : Instr} (h : decode s.cmdQ = .ok i) :
    s.isStop = (i.opcode == .stop) := by
  rw [State.isStop, decode_eq_ok_iff.mp h, fieldsOf_encode, Opcode.ofBits_bits]
  cases i.opcode <;> rfl

theorem State.operandDir_of_decode {s : State} {i : Instr} (h : decode s.cmdQ = .ok i) : s.operandDir = i.dir := by
  rw [State.operandDir, decode_eq_ok_iff.mp h, fieldsOf_encode]

/-! States that agree. -/

theorem State.Agrees.eq_withTrace {s t : State} (h : s.Agrees t) : t = { s with trace := t.trace } := by
  cases s
  cases t
  simpa [State.Agrees] using h.2.symm

theorem State.Agrees.setRunning {s t : State} (h : s.Agrees t) (b : Level) :
    (s.setRunning b).Agrees (t.setRunning b) := by
  refine ⟨by simp [h.1], ?_⟩
  rw [h.eq_withTrace]
  rfl

theorem State.Agrees.respond {s t : State} (h : s.Agrees t) (st : BitVec 2) (d : Arg) :
    (s.respond st d).Agrees (t.respond st d) := by
  refine ⟨by simp [h.1], ?_⟩
  rw [h.eq_withTrace]
  rfl

/-! From the acceptance edge into the Respond cycle (R240). -/

section
variable {s : State} (hr : s.rst = false)
include hr

/-- The sequence of `init` and `setStepMode` ends in the Respond cycle. -/
theorem State.cfg_respond_cycles (hs : s.isStop = false) (m : Mode) :
    ((s.storeMode m).goto (.line .cfgStby)).cycles (200 * s.unitCycles + 5) =
      (s.cfg m).enterRespond statusOk 0 :=
  (State.cfg_cycles (s.storeMode m) hr).trans (if_neg (ne_true_of_eq_false hs))

/-- That of `stop` has one more cycle, for the flag (R165). -/
theorem State.cfg_stop_cycles (hs : s.isStop = true) (m : Mode) :
    ((s.storeMode m).goto (.line .cfgStby)).cycles (200 * s.unitCycles + 6) =
      ((s.cfg m).setRunning false).enterRespond statusOk 0 := by
  have hlatch : ((s.storeMode m).goto (.line .cfgStby)).cycles (200 * s.unitCycles + 5) =
      (s.cfg m).goto .clearRunning := (State.cfg_cycles (s.storeMode m) hr).trans (if_pos hs)
  rw [State.cycles_succ, hlatch]
  exact State.goto_clearRunning_cycle _ hr

theorem State.setDirection_cycles :
    (s.goto (.line .setDir)).cycles (10 * s.unitCycles + 1) =
      ((s.setLine .dir s.operandDir).wait tDir).enterRespond statusOk 0 := by
  rw [Nat.add_comm, State.cycles_one_add, State.goto_line_cycle _ _ hr]
  exact State.startWait_cycles_of (k := .dir) hr rfl

theorem State.run_respond_cycles :
    (s.goto (.line .runStby)).cycles (s.runLength + 1) =
      ((s.loopTop.pulseLoop s.pulseCnt.toNat).setRunning false).enterRespond statusOk 0 := by
  rw [State.cycles_succ, State.run_loop_cycles hr]
  exact State.goto_clearRunning_cycle _ (by rw [State.pulseLoop_rst]; exact hr)

end

/-- The loop of a run agrees with the untimed run. -/
theorem State.runPulses_agrees (s : State) (n : PulseCount) :
    ((((((s.loadPulses n).setRunning true).loopTop).pulseLoop n.toNat).setRunning false).respond statusOk 0).Agrees
      (s.runPulses n s.operandDir) :=
  ((pulseTrainIsTheLoop (s.preamble s.operandDir) n).setRunning false).respond statusOk 0

/-- `n` cycles on from `s` comes a Respond cycle, whose response leads to a state that agrees with `t`. -/
def State.RespondsAfter (s : State) (n : Nat) (t : State) : Prop :=
  ∃ u st d, s.cycles n = State.enterRespond st d u ∧ (State.respond st d u).Agrees t

theorem State.RespondsAfter.of_cycles {s u : State} {n : Nat} {st : BitVec 2} {d : Arg}
    (h : s.cycles n = u.enterRespond st d) : s.RespondsAfter n (u.respond st d) :=
  ⟨u, st, d, h, .refl _⟩

theorem State.enterRespond_respondsAfter (s : State) (st : BitVec 2) (d : Arg) :
    (s.enterRespond st d).RespondsAfter 0 (s.respond st d) := .of_cycles rfl

theorem State.beginRun_respondsAfter {s : State} (hr : s.rst = false) (n : PulseCount) :
    ∃ k, runCycles n s = k + 2 ∧ (s.beginRun n).RespondsAfter k (s.runPulses n s.operandDir) := by
  have hlength : runCycles n s = ((s.loadPulses n).setRunning true).runLength + 1 + 2 :=
    Nat.add_right_comm (100 * s.unitCycles + 2) 3 _
  have hcycles := State.run_respond_cycles (s := (s.loadPulses n).setRunning true) hr
  exact ⟨_, hlength, _, _, _, hcycles, s.runPulses_agrees n⟩

/-- From the edge that accepts a command to its Respond cycle: R240's table less the acceptance cycle and the
Respond cycle; and the untimed command responds from the same state. -/
theorem State.begin_respondsAfter {s : State} {i : Instr} (hr : s.rst = false) (hd : decode s.cmdQ = .ok i) :
    ∃ n t, commandCycles i s = n + 2 ∧ exec i s = .next t ∧ (s.begin i).RespondsAfter n t := by
  have hstop := State.isStop_of_decode hd
  have hdir := State.operandDir_of_decode hd
  cases i with
  | init m =>
    simp only [State.begin, commandCycles, exec, execInit]
    split
    · have hcfg := State.cfg_respond_cycles (s := s.loadDefaultPeriod.setRunning false) hr hstop (modeOf m)
      exact ⟨_, _, rfl, rfl, .of_cycles hcfg⟩
    · exact ⟨0, _, rfl, rfl, s.enterRespond_respondsAfter _ _⟩
  | setStepMode m =>
    simp only [State.begin, commandCycles, exec, execSetStepMode]
    split
    · exact ⟨_, _, rfl, rfl, .of_cycles (State.cfg_respond_cycles hr hstop (modeOf m))⟩
    · exact ⟨0, _, rfl, rfl, s.enterRespond_respondsAfter _ _⟩
  | stop => exact ⟨_, _, rfl, rfl, .of_cycles (State.cfg_stop_cycles hr hstop s.stepMode)⟩
  | setDirection d =>
    have hwait := State.setDirection_cycles hr
    rw [hdir] at hwait
    exact ⟨_, _, rfl, rfl, .of_cycles hwait⟩
  | runSteps n d =>
    obtain ⟨k, hk, hrun⟩ := State.beginRun_respondsAfter hr (stepTotal n)
    rw [hdir] at hrun
    exact ⟨k, _, hk, rfl, hrun⟩
  | runRevolutions r d =>
    obtain ⟨k, hk, hrun⟩ := State.beginRun_respondsAfter hr (revTotal r s.stepMode)
    rw [hdir] at hrun
    exact ⟨k, _, hk, rfl, hrun⟩
  | getDirection => exact ⟨0, _, rfl, rfl, s.afterReadDir.enterRespond_respondsAfter _ _⟩
  | setStepPeriod p => exact ⟨0, _, rfl, rfl, (s.storePeriod p).enterRespond_respondsAfter _ _⟩
  | getStepMode | getStepPeriod => exact ⟨0, _, rfl, rfl, s.enterRespond_respondsAfter _ _⟩

theorem wordCycles_of_ok {w : CmdWord} {i : Instr} {s : State} (hd : decode w = .ok i) :
    wordCycles w s = commandCycles i s := by
  simp only [wordCycles, hd]

/-- The same of an accepted word: a rejected one responds in the next cycle. -/
theorem State.acceptEdge_respondsAfter {s : State} (w : CmdWord) (hr : s.rst = false) :
    ∃ n t, wordCycles w s = n + 2 ∧ runWord w s = .next t ∧ (s.acceptEdge w).RespondsAfter n t := by
  cases hd : decode w with
  | ok i =>
    obtain ⟨n, t, hn, ht, h⟩ := State.begin_respondsAfter (s := s.accept w) hr hd
    have hcycles : commandCycles i (s.accept w) = commandCycles i s := by cases i <;> rfl
    refine ⟨n, t, ?_, (runWord_of_ok hd s).trans ht, ?_⟩
    · rw [wordCycles_of_ok hd, ← hcycles, hn]
    · rw [State.acceptEdge, hd]
      exact h
  | error r =>
    refine ⟨0, _, by simp only [wordCycles, hd], runWord_of_error hd s, ?_⟩
    rw [State.acceptEdge, hd]
    exact State.enterRespond_respondsAfter _ _ _

/-! What every cycle keeps. -/

theorem State.acceptEdge_surroundings (w : CmdWord) (s : State) :
    SameSurroundings (s.accept w) (s.acceptEdge w) := by
  obtain ⟨u, es, hu, ⟨k, h⟩ | ⟨st, d, h⟩⟩ := State.acceptEdge_cases w s
  all_goals
    rw [h]
    exact hu.surroundings

/-- No cycle drives `rst` or changes a parameter. -/
theorem State.cycle_environment (s : State) : s.cycle.rst = s.rst ∧ s.cycle.params = s.params := by
  cases hr : s.rst with
  | true =>
    rw [State.cycle_eq_resetEdge hr]
    exact ⟨hr, rfl⟩
  | false =>
    by_cases hf : s.fsm = .idle
    · cases hq : s.commands with
      | nil =>
        rw [State.cycle_of_idle hr hf hq]
        exact ⟨hr, rfl⟩
      | cons w q =>
        obtain ⟨-, hrst, -, hparams⟩ := s.acceptEdge_surroundings w
        rw [State.cycle_accept hr hf hq]
        exact ⟨hrst.trans hr, hparams⟩
    · obtain ⟨-, hrst, -, hparams⟩ := State.cycle_surroundings hr hf
      exact ⟨hrst.trans hr, hparams⟩

theorem State.cycles_rst (n : Nat) (s : State) : (s.cycles n).rst = s.rst := by
  induction n generalizing s with
  | zero => rfl
  | succ n ih => exact (ih s.cycle).trans s.cycle_environment.1

/-- `rsp_valid` is 1 in the Respond cycle and in no other (R31). -/
theorem State.CyclesTo.rspValid {s t : State} (h : s.CyclesTo t) (hv : s.rspValid = decide (s.fsm = .respond)) :
    t.rspValid = decide (t.fsm = .respond) := by
  have low (hf : s.fsm ≠ .respond) : s.rspValid = false := hv.trans (decide_eq_false hf)
  cases h with
  | idle => exact hv
  | accept w q hf =>
    obtain ⟨u, es, hu, ⟨k, h⟩ | ⟨st, d, h⟩⟩ := State.acceptEdge_cases w s
    · rw [h]
      exact hu.valid.trans (low (by simp [hf]))
    · rw [h]
      rfl
  | line k l b n t hf h => exact h.rspValid (low (by simp [hf]))
  | wait k t hf h => exact h.rspValid (low (by simp [hf]))
  | clearRunning | respond => rfl

theorem State.cycles_rspValid (n : Nat) {s : State} (hr : s.rst = false)
    (hv : s.rspValid = decide (s.fsm = .respond)) :
    (s.cycles n).rspValid = decide ((s.cycles n).fsm = .respond) := by
  induction n with
  | zero => exact hv
  | succ n ih =>
    rw [State.cycles_succ]
    exact (State.cyclesTo_cycle ((s.cycles_rst n).trans hr)).rspValid ih

/-! With nothing presented, a block that has become idle stays so; so it was busy as long as it had not
responded. -/

theorem State.cycles_of_idle {s : State} (hr : s.rst = false) (hf : s.fsm = .idle) (hq : s.commands = []) (n : Nat) :
    s.cycles n = s := by
  induction n with
  | zero => rfl
  | succ n ih => rw [State.cycles, State.cycle_of_idle hr hf hq, ih]

theorem State.cycles_commands_nil (n : Nat) {s : State} (hr : s.rst = false) (hq : s.commands = []) :
    (s.cycles n).commands = [] := by
  induction n with
  | zero => exact hq
  | succ n ih =>
    have hrst : (s.cycles n).rst = false := (s.cycles_rst n).trans hr
    rw [State.cycles_succ]
    by_cases hf : (s.cycles n).fsm = .idle
    · rw [State.cycle_of_idle hrst hf ih, ih]
    · obtain ⟨-, -, hcommands, -⟩ := State.cycle_surroundings hrst hf
      rw [hcommands, ih]

theorem State.busy_until_respond {s : State} {n j : Nat} (hr : s.rst = false) (hq : s.commands = [])
    (hn : (s.cycles n).fsm = .respond) (hj : j ≤ n) :
    (s.cycles j).fsm ≠ .idle ∧ ((s.cycles j).fsm = .respond ↔ j = n) := by
  have stays {k m : Nat} (hf : (s.cycles k).fsm = .idle) : (s.cycles (k + m)).fsm = .idle := by
    rw [State.cycles_add, State.cycles_of_idle ((s.cycles_rst k).trans hr) hf (State.cycles_commands_nil k hr hq), hf]
  obtain ⟨m, rfl⟩ := Nat.exists_eq_add_of_le hj
  refine ⟨fun hf => ?_, fun hf => ?_, fun h => h ▸ hn⟩
  · cases (stays hf).symm.trans hn
  · cases m with
    | zero => rfl
    | succ m =>
      have hidle : (s.cycles (j + 1)).fsm = .idle := by
        rw [State.cycles_succ, State.cycle_respond ((s.cycles_rst j).trans hr) hf]
        rfl
      rw [Nat.add_comm m, ← Nat.add_assoc] at hn
      cases (stays hidle).symm.trans hn

/-! The words presented behind a command do not reach it (R61). -/

theorem State.withCommands_afterReadDir (s : State) (q : List CmdWord) :
    (s.withCommands q).afterReadDir = s.afterReadDir.withCommands q := by
  rw [State.afterReadDir, State.afterReadDir, State.withCommands_params]
  cases s.params.dirReadback <;> rfl

theorem State.withCommands_begin (i : Instr) (s : State) (q : List CmdWord) :
    (s.withCommands q).begin i = (s.begin i).withCommands q := by
  cases i with
  | init m | setStepMode m =>
    simp only [State.begin]
    split <;> rfl
  | getDirection =>
    simp only [State.begin, State.withCommands_afterReadDir]
    rfl
  | _ => rfl

theorem State.withCommands_acceptEdge (w : CmdWord) (s : State) (q : List CmdWord) :
    (s.withCommands q).acceptEdge w = (s.acceptEdge w).withCommands q.tail := by
  unfold State.acceptEdge
  split
  · exact State.withCommands_begin _ (s.accept w) q.tail
  · rfl

theorem wordCycles_withCommands (w : CmdWord) (s : State) (q : List CmdWord) :
    wordCycles w (s.withCommands q) = wordCycles w s := by
  unfold wordCycles
  split
  · next i _ => cases i <;> rfl
  · rfl

/-- From the acceptance edge to the Respond cycle the block is busy, whatever is presented: it is so with
nothing presented, and what is presented does not matter. -/
theorem State.acceptEdge_busy {s : State} {w : CmdWord} {n j : Nat} (hr : s.rst = false)
    (hn : wordCycles w s = n + 2) (hj : j ≤ n) :
    ((s.acceptEdge w).cycles j).fsm ≠ .idle ∧ (((s.acceptEdge w).cycles j).fsm = .respond ↔ j = n) := by
  obtain ⟨m, t, hm, -, u, st, d, hcycles, -⟩ := State.acceptEdge_respondsAfter (s := s.withCommands []) w hr
  obtain rfl : m = n := by
    rw [wordCycles_withCommands, hn] at hm
    exact (Nat.add_right_cancel hm).symm
  rw [State.withCommands_acceptEdge] at hcycles
  have hrst : ((s.acceptEdge w).withCommands []).rst = false := by
    obtain ⟨-, hrst, -⟩ := s.acceptEdge_surroundings w
    exact hrst.trans hr
  have alone {j : Nat} (hj : j ≤ m) := State.busy_until_respond (j := j) hrst rfl (congrArg State.fsm hcycles) hj
  have hsame : (s.acceptEdge w).cycles j =
      (((s.acceptEdge w).withCommands []).cycles j).withCommands (s.acceptEdge w).commands :=
    presentedWordsDoNotDisturb _ (s.acceptEdge w).commands j hrst fun k hk => (alone (by omega)).1
  rw [hsame]
  exact alone hj

/-! The obligations about R240. -/

/-- Settles O48: the acceptance edge, the cycles to the Respond cycle, and that cycle. -/
theorem referenceRealisesTheCommand : Obligations.ReferenceRealisesTheCommand := by
  intro s t w q hr hs hf hq h
  rw [step_of_presented hr hs hf hq] at h
  obtain ⟨n, u, hn, hu, v, st, d, hcycles, hagrees⟩ := State.acceptEdge_respondsAfter w hr
  cases hu.symm.trans h
  have hrst : (v.enterRespond st d).rst = false := by
    rw [← hcycles, State.cycles_rst, ← State.cycle_accept hr hf hq, s.cycle_environment.1, hr]
  rw [hn, State.cycles, State.cycle_accept hr hf hq, State.cycles_succ, hcycles, State.cycle_respond hrst rfl]
  exact hagrees

/-- Settles O49: busy from the acceptance edge to the Respond cycle, which the strobe marks. -/
theorem busyForTheTableCycles : Obligations.BusyForTheTableCycles := by
  intro s w q hr hf hv hq
  obtain ⟨n, t, hn, -, u, st, d, hcycles, -⟩ := State.acceptEdge_respondsAfter (s := s) w hr
  have hvalid (j : Nat) := State.cycles_rspValid j hr (by rw [hv, hf]; rfl)
  have hready {j : Nat} (hf : (s.cycles j).fsm ≠ .idle) : (s.cycles j).cmdReady = false := by
    rw [State.cmdReady, decide_eq_false hf, Bool.false_and]
  have hlast : s.cycles (n + 1) = u.enterRespond st d := by
    rw [State.cycles, State.cycle_accept hr hf hq, hcycles]
  have hrst : (u.enterRespond st d).rst = false := by rw [← hlast, State.cycles_rst, hr]
  rw [hn]
  refine ⟨fun j hlo hhi => ?_, ?_, ?_⟩
  · obtain ⟨j, rfl⟩ := Nat.exists_eq_add_of_le' hlo
    obtain ⟨hbusy, hrespond⟩ := State.acceptEdge_busy hr hn (j := j) (by omega)
    rw [← State.cycle_accept hr hf hq, ← State.cycles] at hbusy hrespond
    refine ⟨hready hbusy, ?_⟩
    rw [hvalid, decide_eq_decide, hrespond]
    omega
  · rw [State.cycles_succ, hlast, State.cycle_respond hrst rfl]
    exact (State.cmdReady_iff _).mpr ⟨rfl, hrst⟩
  · rw [State.cycles_succ, hlast, State.cycle_respond hrst rfl]
    rfl

end Sys2Proof.Machine

/-! PROOFS. The legal states: reset is legal, every cycle and every step keeps a legal state legal, and from a
legal state the machine goes on (`10_state.md` section 5, `60_exceptions.md`). -/

namespace Sys2Proof.Machine

/-! The invariant taken apart: what holds at every place of a command, what holds outside a wait, and what
depends on the place. -/

/-- The registers are legal and the strobe is low. -/
def State.Legal (s : State) : Prop :=
  s.stepMode.toNat ≤ maxMode ∧ (s.stepPeriod = s.params.defaultStepPeriod ∨ s.stepPeriod.toNat < 2 ^ 31) ∧
    s.rspStatus ≠ statusReserved ∧ s.rspValid = false

/-- Legal, and no wait is counted. -/
def State.Ready (s : State) : Prop := s.Legal ∧ s.unitCnt = 0 ∧ s.presc = 0

/-- Flag, command and pulse counter fit the place `f` of a command. -/
def State.FitsAt (s : State) (f : Fsm) : Prop :=
  s.running = (s.goto f).inRun ∧ (s.goto f).CommandFits ∧ (s.goto f).PulsesFit

section
variable {s : State}

theorem State.Inv.fitsAt (h : s.Inv) {f : Fsm} (hf : s.fsm = f) : s.FitsAt f := by
  subst hf
  exact ⟨h.running, h.command, h.pulses⟩

theorem State.Inv.legal (h : s.Inv) (hf : s.fsm ≠ .respond) : s.Legal :=
  ⟨h.mode, h.period, h.status, h.valid.trans (decide_eq_false hf)⟩

/-- Outside a wait the wait counters are zero. -/
theorem State.Inv.counters_zero (h : s.Inv) (hf : ∀ k, s.fsm ≠ .wait k) : s.unitCnt = 0 ∧ s.presc = 0 := by
  have hc := h.counters
  unfold State.CountersFit at hc
  cases hfsm : s.fsm with
  | wait k => exact absurd hfsm (hf k)
  | _ => rw [hfsm] at hc; exact hc

theorem State.Inv.ready (h : s.Inv) (hwait : ∀ k, s.fsm ≠ .wait k) (hrespond : s.fsm ≠ .respond) : s.Ready :=
  ⟨h.legal hrespond, h.counters_zero hwait⟩

/-- No clause of the invariant reads the input ports, the draws or the trace. -/
theorem State.Inv.of_ports (h : s.Inv) (r : Level) (q : List CmdWord) (n : Nat) (x : List TraceItem) :
    State.Inv { s with rst := r, commands := q, padDraws := n, trace := x } :=
  ⟨h.mode, h.running, h.valid, h.status, h.period, h.command, h.counters, h.pulses⟩

/-! Going to a place of a command. -/

theorem State.Ready.goto_inv (h : s.Ready) {f : Fsm} (hf : s.FitsAt f) (hwait : ∀ k, f ≠ .wait k)
    (hrespond : f ≠ .respond) : (s.goto f).Inv := by
  obtain ⟨⟨hmode, hperiod, hstatus, hvalid⟩, hcounters⟩ := h
  obtain ⟨hrunning, hcommand, hpulses⟩ := hf
  refine ⟨hmode, hrunning, hvalid.trans (decide_eq_false hrespond).symm, hstatus, hperiod, hcommand, ?_, hpulses⟩
  cases f with
  | wait k => exact absurd rfl (hwait k)
  | _ => exact hcounters

theorem State.Ready.goto_line_inv (h : s.Ready) {k : LineStep} (hf : s.FitsAt (.line k)) :
    (s.goto (.line k)).Inv := h.goto_inv hf (by simp) (by simp)

theorem State.Ready.enterRespond_inv (h : s.Ready) (hf : s.FitsAt .respond) {st : BitVec 2}
    (hst : st ≠ statusReserved) (d : Arg) : (s.enterRespond st d).Inv := by
  obtain ⟨⟨hmode, hperiod, -, -⟩, hcounters⟩ := h
  obtain ⟨hrunning, -, hpulses⟩ := hf
  exact ⟨hmode, hrunning, rfl, hst, hperiod, trivial, hcounters, hpulses⟩

theorem State.Ready.respond_ok_inv (h : s.Ready) (hf : s.FitsAt .respond) (d : Arg) :
    (s.enterRespond statusOk d).Inv := h.enterRespond_inv hf (by decide) d

/-- Within a wait. -/
theorem State.Legal.wait_inv (h : s.Legal) {k : WaitStep} (hf : s.FitsAt (.wait k)) {presc : Nat} {units : Arg}
    (hpos : 0 < units.toNat) (hle : units.toNat ≤ (s.waitUnits k).toNat) (hpresc : presc < s.unitCycles) :
    State.Inv { s with fsm := .wait k, presc := presc, unitCnt := units } := by
  obtain ⟨hmode, hperiod, hstatus, hvalid⟩ := h
  obtain ⟨hrunning, hcommand, hpulses⟩ := hf
  exact ⟨hmode, hrunning, hvalid, hstatus, hperiod, hcommand, ⟨hpos, hle, hpresc⟩, hpulses⟩

/-! Past a wait. -/

/-- A run is not `stop`. -/
theorem State.isStop_eq_false_of_run
    (h : ∃ o ∈ [Opcode.runSteps, .runRevolutions], Opcode.ofBits (fieldsOf s.cmdQ).op = some o) :
    s.isStop = false := by
  obtain ⟨o, ho, hop⟩ := h
  simp only [List.mem_cons, List.not_mem_nil, or_false] at ho
  rw [State.isStop, hop]
  obtain rfl | rfl := ho <;> rfl

/-- The top of the pulse loop: the counter decides between another pulse and the postamble. -/
theorem State.Ready.nextPulse_inv (h : s.Ready) (hf : s.FitsAt (.wait .low)) : s.nextPulse.Inv := by
  obtain ⟨hrunning, hcommand, -⟩ := hf
  unfold State.nextPulse
  split
  · next hdone =>
    have hstop : s.isStop = false := State.isStop_eq_false_of_run hcommand
    have hzero : s.pulseCnt = 0 := by simpa [State.pulsesDone] using hdone
    obtain ⟨o, ho, hop⟩ := hcommand
    refine h.goto_inv ⟨?_, ⟨o, List.mem_cons_of_mem _ ho, hop⟩, hzero⟩ (by simp) (by simp)
    change s.running = !s.isStop
    rw [hrunning, hstop]
    rfl
  · next hdone =>
    have hmore : s.pulseCnt ≠ 0 := by simpa [State.pulsesDone] using hdone
    exact h.goto_line_inv ⟨hrunning, hcommand, hmore⟩

theorem State.Ready.afterWait_inv (h : s.Ready) {k : WaitStep} (hf : s.FitsAt (.wait k)) : (s.afterWait k).Inv := by
  cases k with
  | settle | wake | high => exact h.goto_line_inv hf
  | low => exact h.nextPulse_inv hf
  | dir =>
    obtain ⟨hrunning, -, hpulses⟩ := hf
    exact h.respond_ok_inv ⟨hrunning, trivial, hpulses⟩ 0
  | latch =>
    obtain ⟨hrunning, -, hpulses⟩ := hf
    simp only [State.afterWait]
    split
    · next hstop =>
      have hop : Opcode.ofBits (fieldsOf s.cmdQ).op = some .stop := by simpa [State.isStop] using hstop
      refine h.goto_inv ⟨?_, ⟨.stop, by simp, hop⟩, hpulses⟩ (by simp) (by simp)
      change s.running = !s.isStop
      rw [hrunning, hstop]
      rfl
    · exact h.respond_ok_inv ⟨hrunning, trivial, hpulses⟩ 0

/-- The end of a wait clears the counters. -/
theorem State.Legal.endWait_inv (h : s.Legal) {k : WaitStep} (hf : s.FitsAt (.wait k)) : (s.endWait k).Inv :=
  State.Ready.afterWait_inv (s := s.wait (s.waitUnits k)) ⟨h, rfl, rfl⟩ hf

theorem State.Legal.startWait_inv (h : s.Legal) {k : WaitStep} (hf : s.FitsAt (.wait k)) : (s.startWait k).Inv := by
  unfold State.startWait
  split
  · exact h.endWait_inv hf
  · next hunits =>
    have hpos : 0 < (s.waitUnits k).toNat :=
      Nat.pos_of_ne_zero fun h0 => hunits (BitVec.eq_of_toNat_eq h0)
    exact h.wait_inv hf hpos le_rfl s.unitCycles_pos

/-! Every cycle (R240). -/

theorem State.Inv.waitCycle_inv (h : s.Inv) {k : WaitStep} (hk : s.fsm = .wait k) : (s.waitCycle k).Inv := by
  have hlegal : s.Legal := h.legal (by simp [hk])
  have hf := h.fitsAt hk
  obtain ⟨hpos, hle, hpresc⟩ : 0 < s.unitCnt.toNat ∧ s.unitCnt.toNat ≤ (s.waitUnits k).toNat ∧
      s.presc < s.unitCycles := by
    have hc := h.counters
    rwa [State.CountersFit, hk] at hc
  have within {presc : Nat} {units : Arg} (hpos : 0 < units.toNat) (hle : units.toNat ≤ (s.waitUnits k).toNat)
      (hpresc : presc < s.unitCycles) : State.Inv { s with presc := presc, unitCnt := units } := by
    have hinv := hlegal.wait_inv hf hpos hle hpresc
    rwa [← hk] at hinv
  unfold State.waitCycle
  split
  · next hmore => exact within hpos hle hmore
  · split
    · exact hlegal.endWait_inv hf
    · next hunits =>
      have hone : 1#32 ≤ s.unitCnt := BitVec.le_def.mpr hpos
      have hsub : (s.unitCnt - 1).toNat = s.unitCnt.toNat - 1 := BitVec.toNat_sub_of_le hone
      exact within (by omega) (by omega) s.unitCycles_pos

theorem State.Inv.lineCycle_inv (h : s.Inv) {k : LineStep} (hk : s.fsm = .line k) : (s.lineCycle k).Inv := by
  have hready : s.Ready := h.ready (by simp [hk]) (by simp [hk])
  have waits (l : Line) (b : Level) (j : WaitStep) (hf : s.FitsAt (.wait j)) : ((s.setLine l b).startWait j).Inv :=
    State.Legal.startWait_inv (s := s.setLine l b) hready.1 hf
  have writes (l : Line) (b : Level) (j : LineStep) (hf : s.FitsAt (.line j)) :
      ((s.setLine l b).goto (.line j)).Inv :=
    State.Ready.goto_line_inv (s := s.setLine l b) hready hf
  have hf := h.fitsAt hk
  cases k with
  | cfgStby => exact waits _ _ .settle hf
  | cfgStck => exact writes _ _ .cfgDir hf
  | cfgDir => exact writes _ _ .cfgMode1 hf
  | cfgMode1 => exact writes _ _ .cfgMode2 hf
  | cfgMode2 => exact waits _ _ .latch hf
  | runStby => exact waits _ _ .wake hf
  | runDir => exact State.Ready.nextPulse_inv (s := s.setLine .dir s.operandDir) hready hf
  | pulseHigh => exact waits _ _ .high hf
  | pulseLow =>
    obtain ⟨hrunning, hcommand, -⟩ := hf
    exact State.Legal.startWait_inv (s := (s.setLine .stck false).countPulse) (k := .low) hready.1
      ⟨hrunning, hcommand, trivial⟩
  | setDir => exact waits _ _ .dir hf

/-- The edge that accepts a command, whose word is in `cmd_q`. -/
theorem State.Ready.begin_inv (h : s.Ready) (hf : s.FitsAt .idle) {i : Instr} (hd : decode s.cmdQ = .ok i) :
    (s.begin i).Inv := by
  have hop : Opcode.ofBits (fieldsOf s.cmdQ).op = some i.opcode := by
    rw [decode_eq_ok_iff.mp hd, fieldsOf_encode, Opcode.ofBits_bits]
  have hready := h
  obtain ⟨⟨hmode, hperiod, hstatus, hvalid⟩, hcounters⟩ := h
  obtain ⟨hrunning, -, hpulses⟩ := hf
  have hrespond : s.FitsAt .respond := ⟨hrunning, trivial, hpulses⟩
  have stored {m : Arg} (hm : modeValid m = true) : (modeOf m).toNat ≤ maxMode :=
    modeOf_toNat hm ▸ (modeValid_iff m).mp hm
  have run (n : PulseCount) (hrun : i.opcode ∈ LineStep.runStby.commands) : (s.beginRun n).Inv :=
    State.Ready.goto_line_inv (s := (s.loadPulses n).setRunning true)
      ⟨⟨hmode, hperiod, hstatus, hvalid⟩, hcounters⟩ ⟨rfl, ⟨i.opcode, hrun, hop⟩, trivial⟩
  cases i with
  | init m =>
    simp only [State.begin]
    split
    · next hm =>
      exact State.Ready.goto_line_inv (s := (s.loadDefaultPeriod.setRunning false).storeMode (modeOf m))
        ⟨⟨stored hm, .inl rfl, hstatus, hvalid⟩, hcounters⟩
        ⟨rfl, ⟨.init, by simp [LineStep.commands], hop⟩, hpulses⟩
    · exact hready.enterRespond_inv hrespond (by decide) 0
  | setStepMode m =>
    simp only [State.begin]
    split
    · next hm =>
      exact State.Ready.goto_line_inv (s := s.storeMode (modeOf m))
        ⟨⟨stored hm, hperiod, hstatus, hvalid⟩, hcounters⟩
        ⟨hrunning, ⟨.setStepMode, by simp [LineStep.commands], hop⟩, hpulses⟩
    · exact hready.enterRespond_inv hrespond (by decide) 0
  | stop =>
    exact hready.goto_line_inv (k := .cfgStby) ⟨hrunning, ⟨.stop, by simp [LineStep.commands], hop⟩, hpulses⟩
  | setDirection d =>
    exact hready.goto_line_inv (k := .setDir)
      ⟨hrunning, ⟨.setDirection, by simp [LineStep.commands], hop⟩, hpulses⟩
  | runSteps n d => exact run _ (by simp [Instr.opcode, LineStep.commands])
  | runRevolutions r d => exact run _ (by simp [Instr.opcode, LineStep.commands])
  | getDirection =>
    obtain ⟨n, hn⟩ := s.afterReadDir_eq
    rw [State.begin, hn]
    exact (hready.respond_ok_inv hrespond _).of_ports _ _ n _
  | setStepPeriod p =>
    exact State.Ready.respond_ok_inv (s := s.storePeriod p)
      ⟨⟨hmode, .inr (halfPeriod_lt p), hstatus, hvalid⟩, hcounters⟩ hrespond 0
  | getStepMode | getStepPeriod => exact hready.respond_ok_inv hrespond _

theorem State.Inv.acceptEdge_inv (h : s.Inv) (hf : s.fsm = .idle) (w : CmdWord) : (s.acceptEdge w).Inv := by
  have hready : s.Ready := h.ready (by simp [hf]) (by simp [hf])
  have hfits := h.fitsAt hf
  unfold State.acceptEdge
  split
  · next i hd => exact State.Ready.begin_inv (s := s.accept w) hready hfits hd
  · exact State.Ready.enterRespond_inv (s := s.accept w) hready hfits (by decide) 0

end

/-- Settles O39: each register at its reset value. -/
theorem resetStateIsLegal : Obligations.ResetStateIsLegal :=
  fun _ => ⟨Nat.zero_le _, rfl, rfl, (by decide : statusOk ≠ statusReserved), .inl rfl, trivial, ⟨rfl, rfl⟩, rfl⟩

theorem State.resetEdge_inv (s : State) : s.resetEdge.Inv :=
  (resetStateIsLegal s.params).of_ports s.rst s.commands s.padDraws s.trace

/-- Settles O41: a reset edge, and each place of a command with the edge that leaves it. -/
theorem cycleKeepsLegalStates : Obligations.CycleKeepsLegalStates := by
  intro s h
  cases hr : s.rst with
  | true =>
    rw [State.cycle_eq_resetEdge hr]
    exact s.resetEdge_inv
  | false =>
    cases hf : s.fsm with
    | idle =>
      cases hq : s.commands with
      | nil =>
        rw [State.cycle_of_idle hr hf hq]
        exact h
      | cons w q =>
        rw [State.cycle_accept hr hf hq]
        exact h.acceptEdge_inv hf w
    | line k =>
      rw [State.cycle_line hr hf]
      exact h.lineCycle_inv hf
    | wait k =>
      rw [State.cycle_wait hr hf]
      exact h.waitCycle_inv hf
    | clearRunning =>
      have hready : s.Ready := h.ready (by simp [hf]) (by simp [hf])
      obtain ⟨-, -, hpulses⟩ := h.fitsAt hf
      rw [State.cycle_clearRunning hr hf]
      exact State.Ready.respond_ok_inv (s := s.setRunning false) hready ⟨rfl, trivial, hpulses⟩ 0
    | respond =>
      obtain ⟨hrunning, -, hpulses⟩ := h.fitsAt hf
      rw [State.cycle_respond hr hf]
      exact ⟨h.mode, hrunning, rfl, h.status, h.period, trivial, h.counters_zero (by simp [hf]), hpulses⟩

/-! Every step: a command run whole reaches what its cycles reach (R12, R240). -/

theorem State.Inv.cycles_inv {s : State} (h : s.Inv) (n : Nat) : (s.cycles n).Inv := by
  induction n generalizing s with
  | zero => exact h
  | succ n ih => exact ih (cycleKeepsLegalStates s h)

theorem State.Inv.of_agrees {s t : State} (h : s.Inv) (hst : s.Agrees t) : t.Inv := by
  rw [hst.eq_withTrace]
  exact h.of_ports s.rst s.commands s.padDraws t.trace

/-- Settles O40: a step is a reset edge, nothing, a cycle, or a whole command, and the cycles of that command
keep the invariant and lead to a state that agrees with the step's. -/
theorem stepKeepsLegalStates : Obligations.StepKeepsLegalStates := by
  intro s t h ht
  obtain ⟨-, rfl⟩ | ⟨hr, hs, ⟨-, -, rfl⟩ | ⟨w, q, hf, hq, -⟩ | ⟨-, rfl⟩⟩ := step_cases ht
  · exact s.resetEdge_inv
  · exact h
  · exact (h.cycles_inv _).of_agrees (referenceRealisesTheCommand s t w q hr hs hf hq ht)
  · exact cycleKeepsLegalStates s h

/-- Settles O42: a legal status is not the reserved one, and nothing else stops a step. -/
theorem legalStatesNeverStop : Obligations.LegalStatesNeverStop := by
  intro s h
  cases ht : step s with
  | next t => exact ⟨t, rfl, stepKeepsLegalStates s t h ht⟩
  | fault f => cases f
  | refused r => exact absurd ((stepRefusesOnlyReservedStatus s).mp ⟨r, ht⟩).2 h.status

/-! Reachable states (R33). -/

theorem step_params {s t : State} (ht : step s = .next t) : t.params = s.params := by
  obtain ⟨-, rfl⟩ | ⟨-, -, ⟨-, -, rfl⟩ | ⟨w, q, -, -, hw⟩ | ⟨-, rfl⟩⟩ := step_cases ht
  · rfl
  · rfl
  · obtain ⟨i, -, hi⟩ | ⟨r, -, rfl⟩ := runWord_cases hw
    · obtain ⟨-, -, -, hparams⟩ := exec_surroundings hi
      exact hparams
    · rfl
  · exact s.cycle_environment.2

/-- A reachable state is legal and has the parameters of reset. -/
theorem Reachable.inv {p : Params} {s : State} (h : Reachable p s) : s.Inv ∧ s.params = p := by
  induction h with
  | reset => exact ⟨resetStateIsLegal p, rfl⟩
  | @step s t _ ht ih => exact ⟨stepKeepsLegalStates s t ih.1 ht, (step_params ht).trans ih.2⟩
  | @cycle s _ ih => exact ⟨cycleKeepsLegalStates s ih.1, s.cycle_environment.2.trans ih.2⟩
  | @driveRst s b _ ih => exact ⟨ih.1.of_ports b s.commands s.padDraws s.trace, ih.2⟩
  | @drivePort s q _ ih => exact ⟨ih.1.of_ports s.rst q s.padDraws s.trace, ih.2⟩

/-- A cycle without reset changes the flag only at an acceptance edge and at the postamble's, and then its one
event is that write. -/
theorem State.CyclesTo.running {s t : State} (h : s.CyclesTo t) :
    t.running = s.running ∨ (s.fsm = .idle ∧ t.events = s.events ++ [.run t.running]) ∨
      (s.fsm = .clearRunning ∧ t.running = false ∧ t.events = s.events ++ [.run false]) := by
  cases h with
  | idle | respond => exact .inl rfl
  | accept w q hf =>
    obtain ⟨es, rfl | ⟨b, rfl⟩, hevents, hrunning, -⟩ := s.acceptEdge_events w
    · exact .inl hrunning
    · exact .inr (.inl ⟨hf, by rw [hevents, hrunning]; rfl⟩)
  | line k l b n t _ h => exact .inl h.running
  | wait k t _ h => exact .inl h.running
  | clearRunning hf => exact .inr (.inr ⟨hf, rfl, s.setRunning_events false⟩)

/-- Settles O44: the invariant, and the two edges at which the flag changes. -/
theorem runningExactlyDuringRuns : Obligations.RunningExactlyDuringRuns := by
  intro p s hreach
  obtain ⟨h, hparams⟩ := hreach.inv
  have hidle (hf : s.fsm = .idle) : s.running = false := (h.fitsAt hf).1
  refine ⟨hparams, h.running, hidle, fun hr hlow hhigh => ?_, fun hr hhigh hlow => ?_⟩
  · obtain hsame | ⟨hf, hevents⟩ | ⟨-, hclear, -⟩ := (State.cyclesTo_cycle hr).running
    · rw [hsame, hlow] at hhigh
      cases hhigh
    · rw [hhigh] at hevents
      exact ⟨hf, hevents⟩
    · cases hclear.symm.trans hhigh
  · obtain hsame | ⟨hf, -⟩ | ⟨hf, -, hevents⟩ := (State.cyclesTo_cycle hr).running
    · rw [hsame, hhigh] at hlow
      cases hlow
    · cases (hidle hf).symm.trans hhigh
    · exact ⟨hf, hevents⟩

end Sys2Proof.Machine
